-- ==== Sys2Proof/Word.lean ====
section
/-! DEFINITION. The instruction word and the other plain bit widths (00_scope.md R6, R8). -/

namespace Sys2Proof

/-- The instruction word: an exactly-32-bit unsigned integer (R6 P1, R18). -/
abbrev Word := BitVec 32

/-- One byte, for the byte-level helper of R22 only; the block itself has no bytes. -/
abbrev Byte := BitVec 8

/-- A register index: a 5-bit unsigned value, 0 to 31 (R6 P3, R11). -/
abbrev RegIdx := BitVec 5

end Sys2Proof
end

