-- ==== Sys2Proof/Machine/Fields.lean ====
section
/-! DEFINITION. The Field Extractor: the eight accessors of 40_field_extractor.md (R50 to R57) as bit slices at the positions of
30_encoding.md R31, and the inverse of R58 (c), which joins the fields of a word again. -/

namespace Sys2Proof.Machine

/-- `opcode(w)` = w[6:2] (R50). -/
def Fields.opcode (w : Word) : BitVec 5 := w.extractLsb' 2 5

/-- `rd(w)` = w[11:7] (R51). -/
def Fields.rd (w : Word) : RegIdx := w.extractLsb' 7 5

/-- `funct3(w)` = w[14:12] (R52). -/
def Fields.funct3 (w : Word) : BitVec 3 := w.extractLsb' 12 3

/-- `rs1(w)` = w[19:15] (R53). -/
def Fields.rs1 (w : Word) : RegIdx := w.extractLsb' 15 5

/-- `rs2(w)` = w[24:20] (R54). -/
def Fields.rs2 (w : Word) : RegIdx := w.extractLsb' 20 5

/-- `funct7(w)` = w[31:25] (R55). -/
def Fields.funct7 (w : Word) : BitVec 7 := w.extractLsb' 25 7

/-- `imm110(w)` = w[31:20], unsigned (R56). -/
def Fields.imm110 (w : Word) : BitVec 12 := w.extractLsb' 20 12

/-- `imm3112(w)` = w[31:12], unsigned (R57). -/
def Fields.imm3112 (w : Word) : BitVec 20 := w.extractLsb' 12 20

/-- w[1:0]. No accessor of the spec reads these bits and no result depends on them (R58, R90); the model reads them only to give a word
the name of its row (log 5). -/
def Fields.low (w : Word) : BitVec 2 := w.extractLsb' 0 2

/-- The word with the given fields: R58 (c), the seven parts of R31 from bit 31 down to bit 0. -/
def Fields.join (funct7 : BitVec 7) (rs2 rs1 : RegIdx) (funct3 : BitVec 3) (rd : RegIdx) (opcode : BitVec 5) (low : BitVec 2) : Word :=
  funct7 ++ rs2 ++ rs1 ++ funct3 ++ rd ++ opcode ++ low

end Sys2Proof.Machine
end

