-- ==== Sys2Proof/Machine/Immediates.lean ====
section
/-! DEFINITION. The Sign Extender (41_sign_extender.md R60) and the five Immediate Assemblers (42_immediate_assemblers.md R65 to R69).
Each assembler is a pattern, put together by the bit map of 30_encoding.md R39, handed once to the sign extender (R71 (b)). The patterns
stand alone because they are also the immediate operands of Instr. -/

namespace Sys2Proof.Machine

/-- `sign_extend(value, bit_width)`, the source's formula (R60). The domain is `bit_width ≥ 1`; outside it the spec gives no result and
no statement rests on this one (R63, D16; log 16). -/
def signExtend (value bitWidth : Nat) : Int :=
  let signBit := 1 <<< (bitWidth - 1)
  ((value &&& (signBit - 1) : Nat) : Int) - ((value &&& signBit : Nat) : Int)

/-- imm[11:0] = w[31:20] (R39, R65). -/
def patI (w : Word) : BitVec 12 := Fields.imm110 w

/-- imm[11:5] = w[31:25], imm[4:0] = w[11:7] (R39, R66). -/
def patS (w : Word) : BitVec 12 := Fields.funct7 w ++ Fields.rd w

/-- imm[12] = w[31], imm[11] = w[7], imm[10:5] = w[30:25], imm[4:1] = w[11:8], imm[0] = 0 (R39, R67). -/
def patB (w : Word) : BitVec 13 :=
  (Fields.funct7 w).extractLsb' 6 1 ++ (Fields.rd w).extractLsb' 0 1 ++ (Fields.funct7 w).extractLsb' 0 6
    ++ (Fields.rd w).extractLsb' 1 4 ++ 0#1

/-- imm[19:0] = w[31:12] (R39, R68). -/
def patU (w : Word) : BitVec 20 := Fields.imm3112 w

/-- imm[20] = w[31], imm[19:12] = w[19:12], imm[11] = w[20], imm[10:1] = w[30:21], imm[0] = 0 (R39, R69).
UNVERIFIED: the RISC-V J map, which the spec itself takes from general knowledge (G1, C3; log 10). -/
def patJ (w : Word) : BitVec 21 :=
  (Fields.imm3112 w).extractLsb' 19 1 ++ (Fields.imm3112 w).extractLsb' 0 8 ++ (Fields.imm3112 w).extractLsb' 8 1
    ++ (Fields.imm3112 w).extractLsb' 9 10 ++ 0#1

/-- The I-immediate (R65). -/
def immI (w : Word) : Int := signExtend (patI w).toNat 12

/-- The S-immediate (R66). -/
def immS (w : Word) : Int := signExtend (patS w).toNat 12

/-- The B-immediate (R67). -/
def immB (w : Word) : Int := signExtend (patB w).toNat 13

/-- The U-immediate, not shifted left by 12 (R68). -/
def immU (w : Word) : Int := signExtend (patU w).toNat 20

/-- The J-immediate; the width is 21 (R69, C2). -/
def immJ (w : Word) : Int := signExtend (patJ w).toNat 21

end Sys2Proof.Machine
end

