-- ==== Sys2Proof/Syntax.lean ====
section
/-! DEFINITION. The rows of spec/opcode_table.json as one inductive, and the 32 values of the opcode field as another.

The table has 40 rows of named RV32I instructions (45_rv32i_instruction_map.md, R100 to R139; labels, since the decoder does not
identify instructions, R5) and 32 rows of dispatch classes (44_opcode_dispatch.md, R86, R88, R89; normative). The sets of words of the
two kinds overlap. Here a named constructor stands for the words that match its row, and a class constructor for the words of its class
that match no named row (a reserved funct3 or funct7, or w[1:0] other than 11), so that every word is one instruction (log 5). -/

namespace Sys2Proof

/-- The 32 values of the opcode field w[6:2], in the order of 30_encoding.md R41. -/
inductive OpClass where
  | load | unknown01 | unknown02 | miscMem | opImm | auipc | unknown06 | unknown07
  | store | unknown09 | unknown0A | unknown0B | op | lui | unknown0E | unknown0F
  | unknown10 | unknown11 | unknown12 | unknown13 | unknown14 | unknown15 | unknown16 | unknown17
  | branch | jalr | unknown1A | jal | system | unknown1D | unknown1E | unknown1F
  deriving DecidableEq, Repr

/-- One constructor per row of the opcode table. `imm` is the format's immediate pattern before sign extension (R39): 12 bits (I, S), 13
(B, bit 0 always 0), 20 (U), 21 (J, bit 0 always 0). In a class constructor `low` is w[1:0] and the fields are the word's own. -/
inductive Instr where
  -- upper immediates and jumps (R100 to R103)
  | lui (rd : RegIdx) (imm : BitVec 20)
  | auipc (rd : RegIdx) (imm : BitVec 20)
  | jal (rd : RegIdx) (imm : BitVec 21)
  | jalr (rd rs1 : RegIdx) (imm : BitVec 12)
  -- conditional branches (R104 to R109)
  | beq (rs1 rs2 : RegIdx) (imm : BitVec 13)
  | bne (rs1 rs2 : RegIdx) (imm : BitVec 13)
  | blt (rs1 rs2 : RegIdx) (imm : BitVec 13)
  | bge (rs1 rs2 : RegIdx) (imm : BitVec 13)
  | bltu (rs1 rs2 : RegIdx) (imm : BitVec 13)
  | bgeu (rs1 rs2 : RegIdx) (imm : BitVec 13)
  -- loads (R110 to R114)
  | lb (rd rs1 : RegIdx) (imm : BitVec 12)
  | lh (rd rs1 : RegIdx) (imm : BitVec 12)
  | lw (rd rs1 : RegIdx) (imm : BitVec 12)
  | lbu (rd rs1 : RegIdx) (imm : BitVec 12)
  | lhu (rd rs1 : RegIdx) (imm : BitVec 12)
  -- stores (R115 to R117)
  | sb (rs1 rs2 : RegIdx) (imm : BitVec 12)
  | sh (rs1 rs2 : RegIdx) (imm : BitVec 12)
  | sw (rs1 rs2 : RegIdx) (imm : BitVec 12)
  -- register-immediate arithmetic (R118 to R123)
  | addi (rd rs1 : RegIdx) (imm : BitVec 12)
  | slti (rd rs1 : RegIdx) (imm : BitVec 12)
  | sltiu (rd rs1 : RegIdx) (imm : BitVec 12)
  | xori (rd rs1 : RegIdx) (imm : BitVec 12)
  | ori (rd rs1 : RegIdx) (imm : BitVec 12)
  | andi (rd rs1 : RegIdx) (imm : BitVec 12)
  -- shift-immediates (R124 to R126)
  | slli (rd rs1 : RegIdx) (shamt : BitVec 5)
  | srli (rd rs1 : RegIdx) (shamt : BitVec 5)
  | srai (rd rs1 : RegIdx) (shamt : BitVec 5)
  -- register-register (R127 to R136)
  | add (rd rs1 rs2 : RegIdx)
  | sub (rd rs1 rs2 : RegIdx)
  | sll (rd rs1 rs2 : RegIdx)
  | slt (rd rs1 rs2 : RegIdx)
  | sltu (rd rs1 rs2 : RegIdx)
  | xor (rd rs1 rs2 : RegIdx)
  | srl (rd rs1 rs2 : RegIdx)
  | sra (rd rs1 rs2 : RegIdx)
  | or (rd rs1 rs2 : RegIdx)
  | and (rd rs1 rs2 : RegIdx)
  -- fence and system (R137 to R139)
  | fence (rd rs1 : RegIdx) (imm : BitVec 12)
  | ecall
  | ebreak
  -- the nine base dispatch classes, words of no named row (R86)
  | classLoad (low : BitVec 2) (funct3 : BitVec 3) (rd rs1 : RegIdx) (imm : BitVec 12)
  | classOpImm (low : BitVec 2) (funct3 : BitVec 3) (rd rs1 : RegIdx) (imm : BitVec 12)
  | classAuipc (low : BitVec 2) (rd : RegIdx) (imm : BitVec 20)
  | classStore (low : BitVec 2) (funct3 : BitVec 3) (rs1 rs2 : RegIdx) (imm : BitVec 12)
  | classOp (low : BitVec 2) (funct7 : BitVec 7) (funct3 : BitVec 3) (rd rs1 rs2 : RegIdx)
  | classLui (low : BitVec 2) (rd : RegIdx) (imm : BitVec 20)
  | classBranch (low : BitVec 2) (funct3 : BitVec 3) (rs1 rs2 : RegIdx) (imm : BitVec 13)
  | classJalr (low : BitVec 2) (funct3 : BitVec 3) (rd rs1 : RegIdx) (imm : BitVec 12)
  | classJal (low : BitVec 2) (rd : RegIdx) (imm : BitVec 21)
  -- the two open classes, words of no named row (R88)
  | classMiscMem (low : BitVec 2) (funct3 : BitVec 3) (rd rs1 : RegIdx) (imm : BitVec 12)
  | classSystem (low : BitVec 2) (funct3 : BitVec 3) (rd rs1 : RegIdx) (imm : BitVec 12)
  -- the 21 keys that are never in the dispatch table (R89); `rest` is w[31:7]
  | classUnknown01 (low : BitVec 2) (rest : BitVec 25)
  | classUnknown02 (low : BitVec 2) (rest : BitVec 25)
  | classUnknown06 (low : BitVec 2) (rest : BitVec 25)
  | classUnknown07 (low : BitVec 2) (rest : BitVec 25)
  | classUnknown09 (low : BitVec 2) (rest : BitVec 25)
  | classUnknown0A (low : BitVec 2) (rest : BitVec 25)
  | classUnknown0B (low : BitVec 2) (rest : BitVec 25)
  | classUnknown0E (low : BitVec 2) (rest : BitVec 25)
  | classUnknown0F (low : BitVec 2) (rest : BitVec 25)
  | classUnknown10 (low : BitVec 2) (rest : BitVec 25)
  | classUnknown11 (low : BitVec 2) (rest : BitVec 25)
  | classUnknown12 (low : BitVec 2) (rest : BitVec 25)
  | classUnknown13 (low : BitVec 2) (rest : BitVec 25)
  | classUnknown14 (low : BitVec 2) (rest : BitVec 25)
  | classUnknown15 (low : BitVec 2) (rest : BitVec 25)
  | classUnknown16 (low : BitVec 2) (rest : BitVec 25)
  | classUnknown17 (low : BitVec 2) (rest : BitVec 25)
  | classUnknown1A (low : BitVec 2) (rest : BitVec 25)
  | classUnknown1D (low : BitVec 2) (rest : BitVec 25)
  | classUnknown1E (low : BitVec 2) (rest : BitVec 25)
  | classUnknown1F (low : BitVec 2) (rest : BitVec 25)
  deriving DecidableEq, Repr

end Sys2Proof
end

