-- ==== Sys2Proof/WellFormed.lean ====
section
/-! DEFINITION. When a term of Instr is an instruction of the table: B and J offsets are even (R39: imm[0] is the constant 0), and a
class constructor holds a word of its class that no named row matches (log 5). The tests of a named row are the row's mask and match
of 45_rv32i_instruction_map.md, less the opcode field. -/

namespace Sys2Proof

/-- Words of class LOAD that LB, LH, LW, LBU, LHU name (R110 to R114). -/
def namedLoad (low : BitVec 2) (funct3 : BitVec 3) : Bool :=
  low == 3 && (funct3 == 0 || funct3 == 1 || funct3 == 2 || funct3 == 4 || funct3 == 5)

/-- Words of class OP-IMM that ADDI to SRAI name (R118 to R126): the three shifts also fix bits [31:25]. -/
def namedOpImm (low : BitVec 2) (funct3 : BitVec 3) (funct7 : BitVec 7) : Bool :=
  low == 3 && (if funct3 = 1 then funct7 == 0x00 else if funct3 = 5 then funct7 == 0x00 || funct7 == 0x20 else true)

/-- Words of class STORE that SB, SH, SW name (R115 to R117). -/
def namedStore (low : BitVec 2) (funct3 : BitVec 3) : Bool :=
  low == 3 && (funct3 == 0 || funct3 == 1 || funct3 == 2)

/-- Words of class OP that ADD to AND name (R127 to R136). -/
def namedOp (low : BitVec 2) (funct7 : BitVec 7) (funct3 : BitVec 3) : Bool :=
  low == 3 && (funct7 == 0x00 || (funct7 == 0x20 && (funct3 == 0 || funct3 == 5)))

/-- Words of class BRANCH that BEQ to BGEU name (R104 to R109): funct3 2 and 3 are reserved. -/
def namedBranch (low : BitVec 2) (funct3 : BitVec 3) : Bool :=
  low == 3 && !(funct3 == 2 || funct3 == 3)

/-- Words of class JALR that JALR names (R103), and words of class MISC-MEM that FENCE names (R137): funct3 = 0. -/
def namedFunct3Zero (low : BitVec 2) (funct3 : BitVec 3) : Bool :=
  low == 3 && funct3 == 0

/-- Words of class SYSTEM that ECALL and EBREAK name (R138, R139): every bit is fixed. -/
def namedSystem (low : BitVec 2) (funct3 : BitVec 3) (rd rs1 : RegIdx) (imm : BitVec 12) : Bool :=
  low == 3 && funct3 == 0 && rd == 0 && rs1 == 0 && (imm == 0x000 || imm == 0x001)

/-- Bit 0 of a B or J immediate is the constant 0 (R39). -/
def evenImm {n : Nat} (imm : BitVec n) : Bool := !imm.getLsbD 0

/-- The well-formedness check. -/
def Instr.wf : Instr → Bool
  | .jal _ imm => evenImm imm
  | .beq _ _ imm => evenImm imm
  | .bne _ _ imm => evenImm imm
  | .blt _ _ imm => evenImm imm
  | .bge _ _ imm => evenImm imm
  | .bltu _ _ imm => evenImm imm
  | .bgeu _ _ imm => evenImm imm
  | .classLoad low f3 _ _ _ => !namedLoad low f3
  | .classOpImm low f3 _ _ imm => !namedOpImm low f3 (imm.extractLsb' 5 7)
  | .classAuipc low _ _ => !(low == 3)
  | .classStore low f3 _ _ _ => !namedStore low f3
  | .classOp low f7 f3 _ _ _ => !namedOp low f7 f3
  | .classLui low _ _ => !(low == 3)
  | .classBranch low f3 _ _ imm => evenImm imm && !namedBranch low f3
  | .classJalr low f3 _ _ _ => !namedFunct3Zero low f3
  | .classJal low _ imm => evenImm imm && !(low == 3)
  | .classMiscMem low f3 _ _ _ => !namedFunct3Zero low f3
  | .classSystem low f3 rd rs1 imm => !namedSystem low f3 rd rs1 imm
  | .lui _ _ | .auipc _ _ | .jalr _ _ _ => true
  | .lb _ _ _ | .lh _ _ _ | .lw _ _ _ | .lbu _ _ _ | .lhu _ _ _ => true
  | .sb _ _ _ | .sh _ _ _ | .sw _ _ _ => true
  | .addi _ _ _ | .slti _ _ _ | .sltiu _ _ _ | .xori _ _ _ | .ori _ _ _ | .andi _ _ _ => true
  | .slli _ _ _ | .srli _ _ _ | .srai _ _ _ => true
  | .add _ _ _ | .sub _ _ _ | .sll _ _ _ | .slt _ _ _ | .sltu _ _ _ => true
  | .xor _ _ _ | .srl _ _ _ | .sra _ _ _ | .or _ _ _ | .and _ _ _ => true
  | .fence _ _ _ | .ecall | .ebreak => true
  | .classUnknown01 _ _ | .classUnknown02 _ _ | .classUnknown06 _ _ | .classUnknown07 _ _ => true
  | .classUnknown09 _ _ | .classUnknown0A _ _ | .classUnknown0B _ _ | .classUnknown0E _ _ => true
  | .classUnknown0F _ _ | .classUnknown10 _ _ | .classUnknown11 _ _ | .classUnknown12 _ _ => true
  | .classUnknown13 _ _ | .classUnknown14 _ _ | .classUnknown15 _ _ | .classUnknown16 _ _ => true
  | .classUnknown17 _ _ | .classUnknown1A _ _ | .classUnknown1D _ _ | .classUnknown1E _ _ => true
  | .classUnknown1F _ _ => true

end Sys2Proof
end

