-- ==== Sys2Proof/Decode.lean ====
section
/-! DEFINITION. From a word to its row of the opcode table (`decodeWord`, total: every word is one instruction), from bytes to an
instruction and the rest (`decodeBytes`, which refuses fewer than four bytes by name), and back (`encode`). The rows' masks and matches
are those of 45_rv32i_instruction_map.md, the layouts those of 30_encoding.md R32 to R39, the inverse maps those of 95_test_vectors.md
section 2. What a decoded word RESULTS in is not said here but in Machine/. -/

namespace Sys2Proof

open Machine

/-! ### The opcode field -/

/-- The class of an opcode value: the 32 rows of R41 in the order of its binary column, so no value falls through. -/
def OpClass.ofField (op : BitVec 5) : OpClass :=
  match op.getLsbD 4, op.getLsbD 3, op.getLsbD 2, op.getLsbD 1, op.getLsbD 0 with
  | false, false, false, false, false => .load
  | false, false, false, false, true => .unknown01
  | false, false, false, true, false => .unknown02
  | false, false, false, true, true => .miscMem
  | false, false, true, false, false => .opImm
  | false, false, true, false, true => .auipc
  | false, false, true, true, false => .unknown06
  | false, false, true, true, true => .unknown07
  | false, true, false, false, false => .store
  | false, true, false, false, true => .unknown09
  | false, true, false, true, false => .unknown0A
  | false, true, false, true, true => .unknown0B
  | false, true, true, false, false => .op
  | false, true, true, false, true => .lui
  | false, true, true, true, false => .unknown0E
  | false, true, true, true, true => .unknown0F
  | true, false, false, false, false => .unknown10
  | true, false, false, false, true => .unknown11
  | true, false, false, true, false => .unknown12
  | true, false, false, true, true => .unknown13
  | true, false, true, false, false => .unknown14
  | true, false, true, false, true => .unknown15
  | true, false, true, true, false => .unknown16
  | true, false, true, true, true => .unknown17
  | true, true, false, false, false => .branch
  | true, true, false, false, true => .jalr
  | true, true, false, true, false => .unknown1A
  | true, true, false, true, true => .jal
  | true, true, true, false, false => .system
  | true, true, true, false, true => .unknown1D
  | true, true, true, true, false => .unknown1E
  | true, true, true, true, true => .unknown1F

/-- The opcode value of a class (R41; UNVERIFIED: the spec itself takes the numbers from general knowledge, G2; log 11). -/
def OpClass.key : OpClass → BitVec 5
  | .load => 0x00
  | .unknown01 => 0x01
  | .unknown02 => 0x02
  | .miscMem => 0x03
  | .opImm => 0x04
  | .auipc => 0x05
  | .unknown06 => 0x06
  | .unknown07 => 0x07
  | .store => 0x08
  | .unknown09 => 0x09
  | .unknown0A => 0x0A
  | .unknown0B => 0x0B
  | .op => 0x0C
  | .lui => 0x0D
  | .unknown0E => 0x0E
  | .unknown0F => 0x0F
  | .unknown10 => 0x10
  | .unknown11 => 0x11
  | .unknown12 => 0x12
  | .unknown13 => 0x13
  | .unknown14 => 0x14
  | .unknown15 => 0x15
  | .unknown16 => 0x16
  | .unknown17 => 0x17
  | .branch => 0x18
  | .jalr => 0x19
  | .unknown1A => 0x1A
  | .jal => 0x1B
  | .system => 0x1C
  | .unknown1D => 0x1D
  | .unknown1E => 0x1E
  | .unknown1F => 0x1F

/-! ### One row of the table for each word -/

/-- Class LOAD, by funct3 (R110 to R114). -/
def decodeLoad (w : Word) : Instr :=
  let other := Instr.classLoad (Fields.low w) (Fields.funct3 w) (Fields.rd w) (Fields.rs1 w) (patI w)
  if Fields.low w = 3 then
    match Fields.funct3 w with
    | 0 => .lb (Fields.rd w) (Fields.rs1 w) (patI w)
    | 1 => .lh (Fields.rd w) (Fields.rs1 w) (patI w)
    | 2 => .lw (Fields.rd w) (Fields.rs1 w) (patI w)
    | 4 => .lbu (Fields.rd w) (Fields.rs1 w) (patI w)
    | 5 => .lhu (Fields.rd w) (Fields.rs1 w) (patI w)
    | _ => other
  else other

/-- Class OP-IMM, by funct3 and, for the shifts, bits [31:25] (R118 to R126). -/
def decodeOpImm (w : Word) : Instr :=
  let other := Instr.classOpImm (Fields.low w) (Fields.funct3 w) (Fields.rd w) (Fields.rs1 w) (patI w)
  if Fields.low w = 3 then
    match Fields.funct3 w with
    | 0 => .addi (Fields.rd w) (Fields.rs1 w) (patI w)
    | 2 => .slti (Fields.rd w) (Fields.rs1 w) (patI w)
    | 3 => .sltiu (Fields.rd w) (Fields.rs1 w) (patI w)
    | 4 => .xori (Fields.rd w) (Fields.rs1 w) (patI w)
    | 6 => .ori (Fields.rd w) (Fields.rs1 w) (patI w)
    | 7 => .andi (Fields.rd w) (Fields.rs1 w) (patI w)
    | 1 => if Fields.funct7 w = 0x00 then .slli (Fields.rd w) (Fields.rs1 w) (Fields.rs2 w) else other
    | _ =>
      if Fields.funct7 w = 0x00 then .srli (Fields.rd w) (Fields.rs1 w) (Fields.rs2 w)
      else if Fields.funct7 w = 0x20 then .srai (Fields.rd w) (Fields.rs1 w) (Fields.rs2 w)
      else other
  else other

/-- Class STORE, by funct3 (R115 to R117). -/
def decodeStore (w : Word) : Instr :=
  let other := Instr.classStore (Fields.low w) (Fields.funct3 w) (Fields.rs1 w) (Fields.rs2 w) (patS w)
  if Fields.low w = 3 then
    match Fields.funct3 w with
    | 0 => .sb (Fields.rs1 w) (Fields.rs2 w) (patS w)
    | 1 => .sh (Fields.rs1 w) (Fields.rs2 w) (patS w)
    | 2 => .sw (Fields.rs1 w) (Fields.rs2 w) (patS w)
    | _ => other
  else other

/-- Class OP, by funct7 and funct3 (R127 to R136). -/
def decodeOp (w : Word) : Instr :=
  let other := Instr.classOp (Fields.low w) (Fields.funct7 w) (Fields.funct3 w) (Fields.rd w) (Fields.rs1 w) (Fields.rs2 w)
  if Fields.low w = 3 then
    if Fields.funct7 w = 0x00 then
      match Fields.funct3 w with
      | 0 => .add (Fields.rd w) (Fields.rs1 w) (Fields.rs2 w)
      | 1 => .sll (Fields.rd w) (Fields.rs1 w) (Fields.rs2 w)
      | 2 => .slt (Fields.rd w) (Fields.rs1 w) (Fields.rs2 w)
      | 3 => .sltu (Fields.rd w) (Fields.rs1 w) (Fields.rs2 w)
      | 4 => .xor (Fields.rd w) (Fields.rs1 w) (Fields.rs2 w)
      | 5 => .srl (Fields.rd w) (Fields.rs1 w) (Fields.rs2 w)
      | 6 => .or (Fields.rd w) (Fields.rs1 w) (Fields.rs2 w)
      | _ => .and (Fields.rd w) (Fields.rs1 w) (Fields.rs2 w)
    else if Fields.funct7 w = 0x20 then
      match Fields.funct3 w with
      | 0 => .sub (Fields.rd w) (Fields.rs1 w) (Fields.rs2 w)
      | 5 => .sra (Fields.rd w) (Fields.rs1 w) (Fields.rs2 w)
      | _ => other
    else other
  else other

/-- Class BRANCH, by funct3 (R104 to R109). -/
def decodeBranch (w : Word) : Instr :=
  let other := Instr.classBranch (Fields.low w) (Fields.funct3 w) (Fields.rs1 w) (Fields.rs2 w) (patB w)
  if Fields.low w = 3 then
    match Fields.funct3 w with
    | 0 => .beq (Fields.rs1 w) (Fields.rs2 w) (patB w)
    | 1 => .bne (Fields.rs1 w) (Fields.rs2 w) (patB w)
    | 4 => .blt (Fields.rs1 w) (Fields.rs2 w) (patB w)
    | 5 => .bge (Fields.rs1 w) (Fields.rs2 w) (patB w)
    | 6 => .bltu (Fields.rs1 w) (Fields.rs2 w) (patB w)
    | 7 => .bgeu (Fields.rs1 w) (Fields.rs2 w) (patB w)
    | _ => other
  else other

/-- Class LUI (R100). -/
def decodeLui (w : Word) : Instr :=
  if Fields.low w = 3 then .lui (Fields.rd w) (patU w) else .classLui (Fields.low w) (Fields.rd w) (patU w)

/-- Class AUIPC (R101). -/
def decodeAuipc (w : Word) : Instr :=
  if Fields.low w = 3 then .auipc (Fields.rd w) (patU w) else .classAuipc (Fields.low w) (Fields.rd w) (patU w)

/-- Class JAL (R102). -/
def decodeJal (w : Word) : Instr :=
  if Fields.low w = 3 then .jal (Fields.rd w) (patJ w) else .classJal (Fields.low w) (Fields.rd w) (patJ w)

/-- Class JALR (R103). -/
def decodeJalr (w : Word) : Instr :=
  if Fields.low w = 3 ∧ Fields.funct3 w = 0 then .jalr (Fields.rd w) (Fields.rs1 w) (patI w)
  else .classJalr (Fields.low w) (Fields.funct3 w) (Fields.rd w) (Fields.rs1 w) (patI w)

/-- Class MISC-MEM (R137). -/
def decodeMiscMem (w : Word) : Instr :=
  if Fields.low w = 3 ∧ Fields.funct3 w = 0 then .fence (Fields.rd w) (Fields.rs1 w) (patI w)
  else .classMiscMem (Fields.low w) (Fields.funct3 w) (Fields.rd w) (Fields.rs1 w) (patI w)

/-- Class SYSTEM (R138, R139): both named rows fix all 32 bits. -/
def decodeSystem (w : Word) : Instr :=
  if w = 0x00000073 then .ecall
  else if w = 0x00100073 then .ebreak
  else .classSystem (Fields.low w) (Fields.funct3 w) (Fields.rd w) (Fields.rs1 w) (patI w)

/-- w[31:7], the bits of an unknown-class word that carry no name. -/
def patRest (w : Word) : BitVec 25 := w.extractLsb' 7 25

/-- The row of a word that belongs to the given class. -/
def decodeClass (c : OpClass) (w : Word) : Instr :=
  match c with
  | .load => decodeLoad w
  | .opImm => decodeOpImm w
  | .auipc => decodeAuipc w
  | .store => decodeStore w
  | .op => decodeOp w
  | .lui => decodeLui w
  | .branch => decodeBranch w
  | .jalr => decodeJalr w
  | .jal => decodeJal w
  | .miscMem => decodeMiscMem w
  | .system => decodeSystem w
  | .unknown01 => .classUnknown01 (Fields.low w) (patRest w)
  | .unknown02 => .classUnknown02 (Fields.low w) (patRest w)
  | .unknown06 => .classUnknown06 (Fields.low w) (patRest w)
  | .unknown07 => .classUnknown07 (Fields.low w) (patRest w)
  | .unknown09 => .classUnknown09 (Fields.low w) (patRest w)
  | .unknown0A => .classUnknown0A (Fields.low w) (patRest w)
  | .unknown0B => .classUnknown0B (Fields.low w) (patRest w)
  | .unknown0E => .classUnknown0E (Fields.low w) (patRest w)
  | .unknown0F => .classUnknown0F (Fields.low w) (patRest w)
  | .unknown10 => .classUnknown10 (Fields.low w) (patRest w)
  | .unknown11 => .classUnknown11 (Fields.low w) (patRest w)
  | .unknown12 => .classUnknown12 (Fields.low w) (patRest w)
  | .unknown13 => .classUnknown13 (Fields.low w) (patRest w)
  | .unknown14 => .classUnknown14 (Fields.low w) (patRest w)
  | .unknown15 => .classUnknown15 (Fields.low w) (patRest w)
  | .unknown16 => .classUnknown16 (Fields.low w) (patRest w)
  | .unknown17 => .classUnknown17 (Fields.low w) (patRest w)
  | .unknown1A => .classUnknown1A (Fields.low w) (patRest w)
  | .unknown1D => .classUnknown1D (Fields.low w) (patRest w)
  | .unknown1E => .classUnknown1E (Fields.low w) (patRest w)
  | .unknown1F => .classUnknown1F (Fields.low w) (patRest w)

/-- The row of the opcode table that a word belongs to, with the operands the row's layout gives it. -/
def decodeWord (w : Word) : Instr := decodeClass (OpClass.ofField (Fields.opcode w)) w

/-! ### Bytes (R22: a helper outside the block) -/

/-- `word_of_bytes` (R22): little-endian, the byte at the lowest address first (D14; log 6). -/
def wordOfBytes (b0 b1 b2 b3 : Byte) : Word := b3 ++ b2 ++ b1 ++ b0

/-- Why a list of bytes gives no instruction. -/
inductive DecodeError where
  /-- Raised by `decodeBytes` alone, never by a step: fewer than the four bytes of an instruction word are there (R30). Safe. -/
  | truncated (got : Nat)
  deriving DecidableEq, Repr

/-- The first instruction of a list of bytes and the bytes after it. -/
def decodeBytes : List Byte → Except DecodeError (Instr × List Byte)
  | b0 :: b1 :: b2 :: b3 :: rest => .ok (decodeWord (wordOfBytes b0 b1 b2 b3), rest)
  | bs => .error (.truncated bs.length)

/-- The four bytes in which a word with the given low `nbits` bits is stored, lowest address first; the bits above are 0. -/
def tableBytes (nbits w : Nat) : List Byte :=
  let x := w % 2 ^ nbits
  [BitVec.ofNat 8 x, BitVec.ofNat 8 (x / 2 ^ 8), BitVec.ofNat 8 (x / 2 ^ 16), BitVec.ofNat 8 (x / 2 ^ 24)]

/-- The instruction the decoder reads from a word numbered as spec/opcode_table.json numbers it. -/
def decodeTableWord (nbits w : Nat) : Option Instr :=
  match decodeBytes (tableBytes nbits w) with
  | .ok (i, _) => some i
  | .error _ => none

/-! ### The encoder: the inverse maps of 95_test_vectors.md section 2 -/

/-- R layout (R32). -/
def encR (low : BitVec 2) (op : BitVec 5) (funct7 : BitVec 7) (funct3 : BitVec 3) (rd rs1 rs2 : RegIdx) : Word :=
  Fields.join funct7 rs2 rs1 funct3 rd op low

/-- I layout (R33). -/
def encI (low : BitVec 2) (op : BitVec 5) (funct3 : BitVec 3) (rd rs1 : RegIdx) (imm : BitVec 12) : Word :=
  Fields.join (imm.extractLsb' 5 7) (imm.extractLsb' 0 5) rs1 funct3 rd op low

/-- S layout (R35). -/
def encS (low : BitVec 2) (op : BitVec 5) (funct3 : BitVec 3) (rs1 rs2 : RegIdx) (imm : BitVec 12) : Word :=
  Fields.join (imm.extractLsb' 5 7) rs2 rs1 funct3 (imm.extractLsb' 0 5) op low

/-- B layout (R36). -/
def encB (low : BitVec 2) (op : BitVec 5) (funct3 : BitVec 3) (rs1 rs2 : RegIdx) (imm : BitVec 13) : Word :=
  Fields.join (imm.extractLsb' 12 1 ++ imm.extractLsb' 5 6) rs2 rs1 funct3 (imm.extractLsb' 1 4 ++ imm.extractLsb' 11 1) op low

/-- U layout (R37). -/
def encU (low : BitVec 2) (op : BitVec 5) (rd : RegIdx) (imm : BitVec 20) : Word :=
  Fields.join (imm.extractLsb' 13 7) (imm.extractLsb' 8 5) (imm.extractLsb' 3 5) (imm.extractLsb' 0 3) rd op low

/-- J layout (R38): the U layout over the scattered immediate. -/
def encJ (low : BitVec 2) (op : BitVec 5) (rd : RegIdx) (imm : BitVec 21) : Word :=
  encU low op rd (imm.extractLsb' 20 1 ++ imm.extractLsb' 1 10 ++ imm.extractLsb' 11 1 ++ imm.extractLsb' 12 8)

/-- A word of an unknown class: the bits above the opcode field as they stand. -/
def encRest (low : BitVec 2) (op : BitVec 5) (rest : BitVec 25) : Word := rest ++ op ++ low

/-- The word of an instruction. -/
def encode : Instr → Word
  | .lui rd imm => encU 3 0x0D rd imm
  | .auipc rd imm => encU 3 0x05 rd imm
  | .jal rd imm => encJ 3 0x1B rd imm
  | .jalr rd rs1 imm => encI 3 0x19 0 rd rs1 imm
  | .beq rs1 rs2 imm => encB 3 0x18 0 rs1 rs2 imm
  | .bne rs1 rs2 imm => encB 3 0x18 1 rs1 rs2 imm
  | .blt rs1 rs2 imm => encB 3 0x18 4 rs1 rs2 imm
  | .bge rs1 rs2 imm => encB 3 0x18 5 rs1 rs2 imm
  | .bltu rs1 rs2 imm => encB 3 0x18 6 rs1 rs2 imm
  | .bgeu rs1 rs2 imm => encB 3 0x18 7 rs1 rs2 imm
  | .lb rd rs1 imm => encI 3 0x00 0 rd rs1 imm
  | .lh rd rs1 imm => encI 3 0x00 1 rd rs1 imm
  | .lw rd rs1 imm => encI 3 0x00 2 rd rs1 imm
  | .lbu rd rs1 imm => encI 3 0x00 4 rd rs1 imm
  | .lhu rd rs1 imm => encI 3 0x00 5 rd rs1 imm
  | .sb rs1 rs2 imm => encS 3 0x08 0 rs1 rs2 imm
  | .sh rs1 rs2 imm => encS 3 0x08 1 rs1 rs2 imm
  | .sw rs1 rs2 imm => encS 3 0x08 2 rs1 rs2 imm
  | .addi rd rs1 imm => encI 3 0x04 0 rd rs1 imm
  | .slti rd rs1 imm => encI 3 0x04 2 rd rs1 imm
  | .sltiu rd rs1 imm => encI 3 0x04 3 rd rs1 imm
  | .xori rd rs1 imm => encI 3 0x04 4 rd rs1 imm
  | .ori rd rs1 imm => encI 3 0x04 6 rd rs1 imm
  | .andi rd rs1 imm => encI 3 0x04 7 rd rs1 imm
  | .slli rd rs1 shamt => encR 3 0x04 0x00 1 rd rs1 shamt
  | .srli rd rs1 shamt => encR 3 0x04 0x00 5 rd rs1 shamt
  | .srai rd rs1 shamt => encR 3 0x04 0x20 5 rd rs1 shamt
  | .add rd rs1 rs2 => encR 3 0x0C 0x00 0 rd rs1 rs2
  | .sub rd rs1 rs2 => encR 3 0x0C 0x20 0 rd rs1 rs2
  | .sll rd rs1 rs2 => encR 3 0x0C 0x00 1 rd rs1 rs2
  | .slt rd rs1 rs2 => encR 3 0x0C 0x00 2 rd rs1 rs2
  | .sltu rd rs1 rs2 => encR 3 0x0C 0x00 3 rd rs1 rs2
  | .xor rd rs1 rs2 => encR 3 0x0C 0x00 4 rd rs1 rs2
  | .srl rd rs1 rs2 => encR 3 0x0C 0x00 5 rd rs1 rs2
  | .sra rd rs1 rs2 => encR 3 0x0C 0x20 5 rd rs1 rs2
  | .or rd rs1 rs2 => encR 3 0x0C 0x00 6 rd rs1 rs2
  | .and rd rs1 rs2 => encR 3 0x0C 0x00 7 rd rs1 rs2
  | .fence rd rs1 imm => encI 3 0x03 0 rd rs1 imm
  | .ecall => 0x00000073
  | .ebreak => 0x00100073
  | .classLoad low f3 rd rs1 imm => encI low 0x00 f3 rd rs1 imm
  | .classOpImm low f3 rd rs1 imm => encI low 0x04 f3 rd rs1 imm
  | .classAuipc low rd imm => encU low 0x05 rd imm
  | .classStore low f3 rs1 rs2 imm => encS low 0x08 f3 rs1 rs2 imm
  | .classOp low f7 f3 rd rs1 rs2 => encR low 0x0C f7 f3 rd rs1 rs2
  | .classLui low rd imm => encU low 0x0D rd imm
  | .classBranch low f3 rs1 rs2 imm => encB low 0x18 f3 rs1 rs2 imm
  | .classJalr low f3 rd rs1 imm => encI low 0x19 f3 rd rs1 imm
  | .classJal low rd imm => encJ low 0x1B rd imm
  | .classMiscMem low f3 rd rs1 imm => encI low 0x03 f3 rd rs1 imm
  | .classSystem low f3 rd rs1 imm => encI low 0x1C f3 rd rs1 imm
  | .classUnknown01 low rest => encRest low 0x01 rest
  | .classUnknown02 low rest => encRest low 0x02 rest
  | .classUnknown06 low rest => encRest low 0x06 rest
  | .classUnknown07 low rest => encRest low 0x07 rest
  | .classUnknown09 low rest => encRest low 0x09 rest
  | .classUnknown0A low rest => encRest low 0x0A rest
  | .classUnknown0B low rest => encRest low 0x0B rest
  | .classUnknown0E low rest => encRest low 0x0E rest
  | .classUnknown0F low rest => encRest low 0x0F rest
  | .classUnknown10 low rest => encRest low 0x10 rest
  | .classUnknown11 low rest => encRest low 0x11 rest
  | .classUnknown12 low rest => encRest low 0x12 rest
  | .classUnknown13 low rest => encRest low 0x13 rest
  | .classUnknown14 low rest => encRest low 0x14 rest
  | .classUnknown15 low rest => encRest low 0x15 rest
  | .classUnknown16 low rest => encRest low 0x16 rest
  | .classUnknown17 low rest => encRest low 0x17 rest
  | .classUnknown1A low rest => encRest low 0x1A rest
  | .classUnknown1D low rest => encRest low 0x1D rest
  | .classUnknown1E low rest => encRest low 0x1E rest
  | .classUnknown1F low rest => encRest low 0x1F rest

/-- The dispatch class of a row's words (R41; the column "class" of the opcode table). -/
def Instr.opClass : Instr → OpClass
  | .lui _ _ => .lui
  | .auipc _ _ => .auipc
  | .jal _ _ => .jal
  | .jalr _ _ _ => .jalr
  | .beq _ _ _ => .branch
  | .bne _ _ _ => .branch
  | .blt _ _ _ => .branch
  | .bge _ _ _ => .branch
  | .bltu _ _ _ => .branch
  | .bgeu _ _ _ => .branch
  | .lb _ _ _ => .load
  | .lh _ _ _ => .load
  | .lw _ _ _ => .load
  | .lbu _ _ _ => .load
  | .lhu _ _ _ => .load
  | .sb _ _ _ => .store
  | .sh _ _ _ => .store
  | .sw _ _ _ => .store
  | .addi _ _ _ => .opImm
  | .slti _ _ _ => .opImm
  | .sltiu _ _ _ => .opImm
  | .xori _ _ _ => .opImm
  | .ori _ _ _ => .opImm
  | .andi _ _ _ => .opImm
  | .slli _ _ _ => .opImm
  | .srli _ _ _ => .opImm
  | .srai _ _ _ => .opImm
  | .add _ _ _ => .op
  | .sub _ _ _ => .op
  | .sll _ _ _ => .op
  | .slt _ _ _ => .op
  | .sltu _ _ _ => .op
  | .xor _ _ _ => .op
  | .srl _ _ _ => .op
  | .sra _ _ _ => .op
  | .or _ _ _ => .op
  | .and _ _ _ => .op
  | .fence _ _ _ => .miscMem
  | .ecall => .system
  | .ebreak => .system
  | .classLoad _ _ _ _ _ => .load
  | .classOpImm _ _ _ _ _ => .opImm
  | .classAuipc _ _ _ => .auipc
  | .classStore _ _ _ _ _ => .store
  | .classOp _ _ _ _ _ _ => .op
  | .classLui _ _ _ => .lui
  | .classBranch _ _ _ _ _ => .branch
  | .classJalr _ _ _ _ _ => .jalr
  | .classJal _ _ _ => .jal
  | .classMiscMem _ _ _ _ _ => .miscMem
  | .classSystem _ _ _ _ _ => .system
  | .classUnknown01 _ _ => .unknown01
  | .classUnknown02 _ _ => .unknown02
  | .classUnknown06 _ _ => .unknown06
  | .classUnknown07 _ _ => .unknown07
  | .classUnknown09 _ _ => .unknown09
  | .classUnknown0A _ _ => .unknown0A
  | .classUnknown0B _ _ => .unknown0B
  | .classUnknown0E _ _ => .unknown0E
  | .classUnknown0F _ _ => .unknown0F
  | .classUnknown10 _ _ => .unknown10
  | .classUnknown11 _ _ => .unknown11
  | .classUnknown12 _ _ => .unknown12
  | .classUnknown13 _ _ => .unknown13
  | .classUnknown14 _ _ => .unknown14
  | .classUnknown15 _ _ => .unknown15
  | .classUnknown16 _ _ => .unknown16
  | .classUnknown17 _ _ => .unknown17
  | .classUnknown1A _ _ => .unknown1A
  | .classUnknown1D _ _ => .unknown1D
  | .classUnknown1E _ _ => .unknown1E
  | .classUnknown1F _ _ => .unknown1F

end Sys2Proof
end

