-- ==== Sys2Proof/Config.lean ====
section
/-! DEFINITION. The two OPEN parameters of an instance (00_scope.md R6: P6 `REGNAME`, P7 `DISPATCH_EXTRA`) and their defaults.
The spec makes them arguments of the model. `exec` and `step` have no such argument, so an instance carries them in its State, as
plain data that no step changes: a statement about every state is a statement for every value of both (log 4). -/

namespace Sys2Proof

/-- `REGNAME` (R15): a total function from the 32 register indices to names, kept as a table. -/
abbrev RegNames := Vector String 32

/-- `DISPATCH_EXTRA` (R88): which of the two open keys the dispatch table also holds. -/
structure DispatchExtra where
  /-- key 0x03, class MISC-MEM -/
  miscMem : Bool
  /-- key 0x1C, class SYSTEM -/
  system : Bool
  deriving DecidableEq, Repr

/-- The parameters of one instance: fixed at instantiation, read-only (R15, R20). -/
structure Params where
  regname : RegNames
  dispatchExtra : DispatchExtra
  deriving DecidableEq, Repr

/-- The spec's default names, `"x" ++ decimal(i)` (R15; D4 calls it a guess beyond `"x0"`, `"x1"`, `"x2"`). -/
def RegNames.default : RegNames :=
  (#v["x0", "x1", "x2", "x3", "x4", "x5", "x6", "x7"] ++ #v["x8", "x9", "x10", "x11", "x12", "x13", "x14", "x15"])
    ++ (#v["x16", "x17", "x18", "x19", "x20", "x21", "x22", "x23"] ++ #v["x24", "x25", "x26", "x27", "x28", "x29", "x30", "x31"])

/-- The spec's default for `DISPATCH_EXTRA`: the empty set (R88). -/
def DispatchExtra.none : DispatchExtra := { miscMem := false, system := false }

/-- The default parameters (R6, P6 and P7). -/
def Params.default : Params := { regname := RegNames.default, dispatchExtra := DispatchExtra.none }

end Sys2Proof
end

