-- ==== Sys2Proof/Machine/Operands.lean ====
section
/-! DEFINITION. Operands (10_state.md R14), operand lists, the Format Decoders (43_format_decoders.md R75 to R81) and the abstract result
(10_state.md R17). The lists come twice: from an instruction's operands (`argsR` to `argsJ`, which the meanings use) and from a word (`decodeR` to
`decodeJ`, the spec's own functions, which Machine/Block.lean uses). -/

namespace Sys2Proof.Machine

/-- A decoded operand (R14). "None" is the absence of an operand. -/
inductive Operand where
  /-- `REG(i)`: a register index -/
  | reg (i : RegIdx)
  /-- `IMM(s)`: a signed immediate, already sign extended, a mathematical integer (R8, D3; log 9) -/
  | imm (s : Int)
  /-- `SHAMT(n)`: the raw value of the rs2 position (C5, D5; log 13) -/
  | shamt (n : BitVec 5)
  deriving DecidableEq, Repr

/-- The seven format tags (R17). -/
inductive Fmt where
  | R | I | ISH | S | B | U | J
  deriving DecidableEq, Repr

/-- The result of a decode (R17, R150). -/
inductive Result where
  /-- `Ok(fmt, args)` -/
  | ok (fmt : Fmt) (args : List Operand)
  /-- `Error(UnknownOpcode(op))` -/
  | unknownOpcode (op : BitVec 5)
  deriving DecidableEq, Repr

/-! ### Operand lists from an instruction's operands -/

/-- R: `[REG(rd), REG(rs1), REG(rs2)]` -/
def argsR (rd rs1 rs2 : RegIdx) : List Operand := [.reg rd, .reg rs1, .reg rs2]

/-- I: `[REG(rd), REG(rs1), IMM(imm)]` -/
def argsI (rd rs1 : RegIdx) (imm : BitVec 12) : List Operand := [.reg rd, .reg rs1, .imm (signExtend imm.toNat 12)]

/-- ISH, shift case: `[REG(rd), REG(rs1), SHAMT(shamt)]` -/
def argsShamt (rd rs1 : RegIdx) (shamt : BitVec 5) : List Operand := [.reg rd, .reg rs1, .shamt shamt]

/-- S: `[REG(rs1), REG(rs2), IMM(imm)]`, base register first (R172) -/
def argsS (rs1 rs2 : RegIdx) (imm : BitVec 12) : List Operand := [.reg rs1, .reg rs2, .imm (signExtend imm.toNat 12)]

/-- B: `[REG(rs1), REG(rs2), IMM(imm)]` -/
def argsB (rs1 rs2 : RegIdx) (imm : BitVec 13) : List Operand := [.reg rs1, .reg rs2, .imm (signExtend imm.toNat 13)]

/-- U: `[REG(rd), IMM(imm)]`, not shifted (R167) -/
def argsU (rd : RegIdx) (imm : BitVec 20) : List Operand := [.reg rd, .imm (signExtend imm.toNat 20)]

/-- J: `[REG(rd), IMM(imm)]` -/
def argsJ (rd : RegIdx) (imm : BitVec 21) : List Operand := [.reg rd, .imm (signExtend imm.toNat 21)]

/-- funct3 selects the shift case of OP-IMM: exactly 1 and 5 (R77, D10; log 19). -/
def isShiftFunct3 (funct3 : BitVec 3) : Bool := funct3 == 1 || funct3 == 5

/-- ISH, both cases (R77): the shift amount is the low 5 bits of the would-be immediate. -/
def argsISH (funct3 : BitVec 3) (rd rs1 : RegIdx) (imm : BitVec 12) : List Operand :=
  if isShiftFunct3 funct3 then argsShamt rd rs1 (imm.extractLsb' 0 5) else argsI rd rs1 imm

/-! ### The Format Decoders -/

/-- `decode_r(w)` (R75) -/
def decodeR (w : Word) : List Operand := [.reg (Fields.rd w), .reg (Fields.rs1 w), .reg (Fields.rs2 w)]

/-- `decode_i(w)` (R76) -/
def decodeI (w : Word) : List Operand := [.reg (Fields.rd w), .reg (Fields.rs1 w), .imm (immI w)]

/-- `decode_i_shamt(w)` (R77) -/
def decodeIShamt (w : Word) : List Operand :=
  if Fields.funct3 w = 1 ∨ Fields.funct3 w = 5 then
    [.reg (Fields.rd w), .reg (Fields.rs1 w), .shamt (Fields.rs2 w)]
  else
    [.reg (Fields.rd w), .reg (Fields.rs1 w), .imm (immI w)]

/-- `decode_s(w)` (R78) -/
def decodeS (w : Word) : List Operand := [.reg (Fields.rs1 w), .reg (Fields.rs2 w), .imm (immS w)]

/-- `decode_b(w)` (R79) -/
def decodeB (w : Word) : List Operand := [.reg (Fields.rs1 w), .reg (Fields.rs2 w), .imm (immB w)]

/-- `decode_u(w)` (R80) -/
def decodeU (w : Word) : List Operand := [.reg (Fields.rd w), .imm (immU w)]

/-- `decode_j(w)` (R81) -/
def decodeJ (w : Word) : List Operand := [.reg (Fields.rd w), .imm (immJ w)]

/-! ### Operands on the ports -/

/-- The code on `argN_kind_o` (R14, D15; log 14): 0 past the end of the list. -/
def kindCode : Option Operand → BitVec 2
  | none => 0
  | some (.reg _) => 1
  | some (.imm _) => 2
  | some (.shamt _) => 3

/-- The value on `argN_val_o` (R14): an index or shift amount zero extended, an immediate modulo 2^32, 0 past the end of the list. -/
def valCode : Option Operand → BitVec 32
  | none => 0
  | some (.reg i) => i.setWidth 32
  | some (.imm s) => BitVec.ofInt 32 s
  | some (.shamt n) => n.setWidth 32

/-- The operand list of a result; the error has none (R17). -/
def Result.args : Result → List Operand
  | .ok _ args => args
  | .unknownOpcode _ => []

end Sys2Proof.Machine
end

