-- ==== Sys2Proof/Machine/Block.lean ====
section
/-! DEFINITION. The whole block as the spec writes it (44_opcode_dispatch.md): the input mask R85, the dispatch R86 and R88, and `decode` R87, a total
function from a natural number to a result. The machine does not call it: `step` goes through the instruction's own row (Decode.lean, the meanings). That
the two agree for every word is a statement (Obligations.StepShowsBlockDecode). -/

namespace Sys2Proof.Machine

/-- Input masking (R85): `w = x & 0xFFFFFFFF`, a deliberate step, mandatory here (D2; log 15). -/
def maskInput (x : Nat) : Word := BitVec.ofNat 32 (x &&& 0xFFFFFFFF)

/-- Dispatch and decode of a masked word (R87, arm for arm). The last arm is the error: a value nobody listed is refused, never guessed (R92). -/
def dispatch (extra : DispatchExtra) (w : Word) : Result :=
  match Fields.opcode w with
  | 0x00 => .ok .I (decodeI w)
  | 0x04 => .ok .ISH (decodeIShamt w)
  | 0x05 => .ok .U (decodeU w)
  | 0x08 => .ok .S (decodeS w)
  | 0x0C => .ok .R (decodeR w)
  | 0x0D => .ok .U (decodeU w)
  | 0x18 => .ok .B (decodeB w)
  | 0x19 => .ok .I (decodeI w)
  | 0x1B => .ok .J (decodeJ w)
  | op =>
    if (op = 0x03 ∧ extra.miscMem = true) ∨ (op = 0x1C ∧ extra.system = true) then .ok .I (decodeI w)
    else .unknownOpcode op

/-- `decode(x)`, the whole block (R87). -/
def decode (extra : DispatchExtra) (x : Nat) : Result := dispatch extra (maskInput x)

end Sys2Proof.Machine
end

