-- ==== Sys2Proof/Machine/Flags.lean ====
section
/-! DEFINITION. The block has no flag and no condition code (10_state.md R16). What stands in their place are the three status ports, which
say what kind of result the other ports show: `err_o`, `fmt_o`, `nargs_o` (10_state.md R13, R17; 60_exceptions.md R150). Their code numbers are the
spec's own choice (D13, D15; log 14). -/

namespace Sys2Proof.Machine

/-- `err_o`: 1 exactly on the error (R150). -/
def errCode : Result → BitVec 1
  | .ok _ _ => 0
  | .unknownOpcode _ => 1

/-- The code of a format tag (R17). -/
def Fmt.code : Fmt → BitVec 3
  | .R => 0
  | .I => 1
  | .ISH => 2
  | .S => 3
  | .B => 4
  | .U => 5
  | .J => 6

/-- `fmt_o`: the tag's code, 7 on the error (R17). -/
def fmtCode : Result → BitVec 3
  | .ok fmt _ => fmt.code
  | .unknownOpcode _ => 7

/-- `nargs_o`: the number of operands, 0 on the error (R17). -/
def nargsCode (r : Result) : BitVec 2 := BitVec.ofNat 2 r.args.length

end Sys2Proof.Machine
end

