-- ==== Sys2Proof/Machine/State.lean ====
section
/-! DEFINITION. The state of one decoder instance: what stands on its input port, what its output ports last showed, and its two
parameters. The spec gives the block no stored state (10_state.md R10): the ports of R13 and the parameters of R6 are all there is to
hold. -/

namespace Sys2Proof.Machine

/-- The output ports (R13), each with the width the spec's table gives it. They hold what the block drove when it last settled; no step
reads them (log 1). -/
structure Ports where
  /-- tap: `opcode(w)` -/
  opcode_o : BitVec 5
  /-- tap: `rd(w)` -/
  rd_o : BitVec 5
  /-- tap: `funct3(w)` -/
  funct3_o : BitVec 3
  /-- tap: `rs1(w)` -/
  rs1_o : BitVec 5
  /-- tap: `rs2(w)` -/
  rs2_o : BitVec 5
  /-- tap: `funct7(w)` -/
  funct7_o : BitVec 7
  /-- tap: `imm110(w)` -/
  imm110_o : BitVec 12
  /-- tap: `imm3112(w)` -/
  imm3112_o : BitVec 20
  /-- 1 when the opcode has no dispatch entry (R150) -/
  err_o : BitVec 1
  /-- which format decoder produced the result; 7 for none (R17) -/
  fmt_o : BitVec 3
  /-- number of operands (R17) -/
  nargs_o : BitVec 2
  /-- kind of operand 0 (R14) -/
  arg0_kind_o : BitVec 2
  /-- kind of operand 1 -/
  arg1_kind_o : BitVec 2
  /-- kind of operand 2 -/
  arg2_kind_o : BitVec 2
  /-- value of operand 0 (R14) -/
  arg0_val_o : BitVec 32
  /-- value of operand 1 -/
  arg1_val_o : BitVec 32
  /-- value of operand 2 -/
  arg2_val_o : BitVec 32
  deriving DecidableEq, Repr

/-- The state of one instance. -/
structure State where
  /-- the input port: the instruction word (R13, R18) -/
  instr_i : Word
  /-- the output ports (R13) -/
  out : Ports
  /-- `REGNAME` and `DISPATCH_EXTRA`, read-only (R6, R15, R88) -/
  params : Params
  deriving DecidableEq, Repr

/-- The reasons a step may stop with a fault: NONE. The block "cannot fault or stall" (93_implementation_defined.md, Part 1); its one
error, `UnknownOpcode`, is a result on the ports and not a stop (R150, R155; log 20). No constructor, so nobody raises one: safe. -/
inductive Fault where
  deriving DecidableEq, Repr

/-- The reasons a step may be refused. -/
inductive Refusal where
  /-- Raised by an arm of `exec` that has no meaning yet. Safe. No arm of this model raises it: every row has its meaning. -/
  | notModelled (mnemonic : String)
  deriving DecidableEq, Repr

/-- The ports of the word 0x00000000 under any parameters: class LOAD, `Ok(I, [REG(0), REG(0), IMM(0)])` (R42 (d)). -/
def Ports.ofZeroWord : Ports :=
  { opcode_o := 0, rd_o := 0, funct3_o := 0, rs1_o := 0, rs2_o := 0, funct7_o := 0, imm110_o := 0, imm3112_o := 0
    err_o := 0, fmt_o := 1, nargs_o := 3
    arg0_kind_o := 1, arg1_kind_o := 1, arg2_kind_o := 2
    arg0_val_o := 0, arg1_val_o := 0, arg2_val_o := 0 }

/-- The instance at power-up. The spec has no reset and no reset value (R20, R165): every output is from the first moment the function of
the word on the input (DEDUCED, log 2). The word that stands there first is the caller's. DESIGN CHOICE: 0x00000000 (log 3). The
parameters take the spec's defaults (R15, R88; log 4). -/
def State.reset : State :=
  { instr_i := 0x00000000, out := Ports.ofZeroWord, params := Params.default }

end Sys2Proof.Machine
end

