-- ==== Sys2Proof/Machine/Ops.lean ====
section
/-! DEFINITION. The operations the meanings share: driving the output ports, returning a list, raising the one error. There is no memory and no register
to read or write (R11, R21). -/

namespace Sys2Proof.Machine

/-- The word on the input port, placed there by the caller (R18); an over-wide value is masked (R85). Everything else stays as it was: the outputs
follow at the next step (log 1). -/
def State.present (s : State) (x : Nat) : State := { s with instr_i := maskInput x }

/-- Every output port for a word and its result (R13, R14, R17): the taps from the word in every case, the error included; operand k on the ports of
position k, kind none and value 0 past the end of the list. -/
def portsOf (w : Word) (r : Result) : Ports :=
  { opcode_o := Fields.opcode w, rd_o := Fields.rd w, funct3_o := Fields.funct3 w, rs1_o := Fields.rs1 w
    rs2_o := Fields.rs2 w, funct7_o := Fields.funct7 w, imm110_o := Fields.imm110 w, imm3112_o := Fields.imm3112 w
    err_o := errCode r, fmt_o := fmtCode r, nargs_o := nargsCode r
    arg0_kind_o := kindCode r.args[0]?, arg1_kind_o := kindCode r.args[1]?, arg2_kind_o := kindCode r.args[2]?
    arg0_val_o := valCode r.args[0]?, arg1_val_o := valCode r.args[1]?, arg2_val_o := valCode r.args[2]? }

/-- The block settles: the output ports take the values of a word and its result, and nothing else changes (R10, R24). -/
def settle (w : Word) (r : Result) (s : State) : Host.Outcome State Fault Refusal :=
  .next { s with out := portsOf w r }

/-- `return Ok(fmt, args)` (R9, R87). -/
def returnOk (w : Word) (fmt : Fmt) (args : List Operand) (s : State) : Host.Outcome State Fault Refusal :=
  settle w (.ok fmt args) s

/-- `raise UnknownOpcode(op)` (R9, R150): the ONE way an error is taken. It is a result like any other: no state is saved, no control goes
anywhere (R155), and nothing needs to return from it (R156). -/
def raiseUnknownOpcode (w : Word) (op : BitVec 5) (s : State) : Host.Outcome State Fault Refusal :=
  settle w (.unknownOpcode op) s

/-- A word of an open class (R88): sent to `decode_i` with tag I where its key is in `DISPATCH_EXTRA`, an unknown opcode where it is not. -/
def returnIfKey (present : Bool) (w : Word) (op : BitVec 5) (args : List Operand) (s : State) : Host.Outcome State Fault Refusal :=
  if present then returnOk w .I args s else raiseUnknownOpcode w op s

end Sys2Proof.Machine
end

