-- ==== Sys2Proof/Machine/Branches.lean ====
section
/-! DEFINITION. Conditional branches (45_rv32i_instruction_map.md R104 to R109): one list, told apart by the funct3 tap only. -/

namespace Sys2Proof.Machine

/-- `BEQ` (R104): `Ok(B, [REG(rs1), REG(rs2), IMM(imm_b)])`. -/
def execBeq (rs1 rs2 : RegIdx) (imm : BitVec 13) (s : State) : Host.Outcome State Fault Refusal :=
  returnOk (encode (.beq rs1 rs2 imm)) .B (argsB rs1 rs2 imm) s

/-- `BNE` (R105): `Ok(B, [REG(rs1), REG(rs2), IMM(imm_b)])`. -/
def execBne (rs1 rs2 : RegIdx) (imm : BitVec 13) (s : State) : Host.Outcome State Fault Refusal :=
  returnOk (encode (.bne rs1 rs2 imm)) .B (argsB rs1 rs2 imm) s

/-- `BLT` (R106): `Ok(B, [REG(rs1), REG(rs2), IMM(imm_b)])`. -/
def execBlt (rs1 rs2 : RegIdx) (imm : BitVec 13) (s : State) : Host.Outcome State Fault Refusal :=
  returnOk (encode (.blt rs1 rs2 imm)) .B (argsB rs1 rs2 imm) s

/-- `BGE` (R107): `Ok(B, [REG(rs1), REG(rs2), IMM(imm_b)])`. -/
def execBge (rs1 rs2 : RegIdx) (imm : BitVec 13) (s : State) : Host.Outcome State Fault Refusal :=
  returnOk (encode (.bge rs1 rs2 imm)) .B (argsB rs1 rs2 imm) s

/-- `BLTU` (R108): `Ok(B, [REG(rs1), REG(rs2), IMM(imm_b)])`. -/
def execBltu (rs1 rs2 : RegIdx) (imm : BitVec 13) (s : State) : Host.Outcome State Fault Refusal :=
  returnOk (encode (.bltu rs1 rs2 imm)) .B (argsB rs1 rs2 imm) s

/-- `BGEU` (R109): `Ok(B, [REG(rs1), REG(rs2), IMM(imm_b)])`. -/
def execBgeu (rs1 rs2 : RegIdx) (imm : BitVec 13) (s : State) : Host.Outcome State Fault Refusal :=
  returnOk (encode (.bgeu rs1 rs2 imm)) .B (argsB rs1 rs2 imm) s

end Sys2Proof.Machine
end

