-- ==== Sys2Proof/Machine/Classes.lean ====
section
/-! DEFINITION. The nine base dispatch classes (44_opcode_dispatch.md R86) and the two open ones (R88), for words that no named row
matches: reserved funct3 or funct7 values and low bits other than 11, which the decoder does not check (R90, R91). -/

namespace Sys2Proof.Machine

/-- Class LOAD, key 0x00 (R86): `decode_i`, whatever funct3 (R91). -/
def execClassLoad (low : BitVec 2) (funct3 : BitVec 3) (rd rs1 : RegIdx) (imm : BitVec 12) (s : State) : Host.Outcome State Fault Refusal :=
  returnOk (encode (.classLoad low funct3 rd rs1 imm)) .I (argsI rd rs1 imm) s

/-- Class OP-IMM, key 0x04 (R86): `decode_i_shamt`, whatever funct7 (R77). -/
def execClassOpImm (low : BitVec 2) (funct3 : BitVec 3) (rd rs1 : RegIdx) (imm : BitVec 12) (s : State) : Host.Outcome State Fault Refusal :=
  returnOk (encode (.classOpImm low funct3 rd rs1 imm)) .ISH (argsISH funct3 rd rs1 imm) s

/-- Class AUIPC, key 0x05 (R86): `decode_u`. -/
def execClassAuipc (low : BitVec 2) (rd : RegIdx) (imm : BitVec 20) (s : State) : Host.Outcome State Fault Refusal :=
  returnOk (encode (.classAuipc low rd imm)) .U (argsU rd imm) s

/-- Class STORE, key 0x08 (R86): `decode_s`, whatever funct3. -/
def execClassStore (low : BitVec 2) (funct3 : BitVec 3) (rs1 rs2 : RegIdx) (imm : BitVec 12) (s : State) : Host.Outcome State Fault Refusal :=
  returnOk (encode (.classStore low funct3 rs1 rs2 imm)) .S (argsS rs1 rs2 imm) s

/-- Class OP, key 0x0C (R86): `decode_r`, whatever funct3 and funct7. -/
def execClassOp (low : BitVec 2) (funct7 : BitVec 7) (funct3 : BitVec 3) (rd rs1 rs2 : RegIdx) (s : State) : Host.Outcome State Fault Refusal :=
  returnOk (encode (.classOp low funct7 funct3 rd rs1 rs2)) .R (argsR rd rs1 rs2) s

/-- Class LUI, key 0x0D (R86): `decode_u`. -/
def execClassLui (low : BitVec 2) (rd : RegIdx) (imm : BitVec 20) (s : State) : Host.Outcome State Fault Refusal :=
  returnOk (encode (.classLui low rd imm)) .U (argsU rd imm) s

/-- Class BRANCH, key 0x18 (R86): `decode_b`, whatever funct3. -/
def execClassBranch (low : BitVec 2) (funct3 : BitVec 3) (rs1 rs2 : RegIdx) (imm : BitVec 13) (s : State) : Host.Outcome State Fault Refusal :=
  returnOk (encode (.classBranch low funct3 rs1 rs2 imm)) .B (argsB rs1 rs2 imm) s

/-- Class JALR, key 0x19 (R86): `decode_i`, whatever funct3. -/
def execClassJalr (low : BitVec 2) (funct3 : BitVec 3) (rd rs1 : RegIdx) (imm : BitVec 12) (s : State) : Host.Outcome State Fault Refusal :=
  returnOk (encode (.classJalr low funct3 rd rs1 imm)) .I (argsI rd rs1 imm) s

/-- Class JAL, key 0x1B (R86): `decode_j`. -/
def execClassJal (low : BitVec 2) (rd : RegIdx) (imm : BitVec 21) (s : State) : Host.Outcome State Fault Refusal :=
  returnOk (encode (.classJal low rd imm)) .J (argsJ rd imm) s

/-- Class MISC-MEM, open key 0x03 (R88): FENCE.I and the rest of the class, treated as FENCE is (R137). -/
def execClassMiscMem (low : BitVec 2) (funct3 : BitVec 3) (rd rs1 : RegIdx) (imm : BitVec 12) (s : State) : Host.Outcome State Fault Refusal :=
  returnIfKey s.params.dispatchExtra.miscMem (encode (.classMiscMem low funct3 rd rs1 imm)) 0x03 (argsI rd rs1 imm) s

/-- Class SYSTEM, open key 0x1C (R88): every SYSTEM word but ECALL and EBREAK, treated as they are (R139). -/
def execClassSystem (low : BitVec 2) (funct3 : BitVec 3) (rd rs1 : RegIdx) (imm : BitVec 12) (s : State) : Host.Outcome State Fault Refusal :=
  returnIfKey s.params.dispatchExtra.system (encode (.classSystem low funct3 rd rs1 imm)) 0x1C (argsI rd rs1 imm) s

end Sys2Proof.Machine
end

