-- ==== Sys2Proof/Machine/FenceSystem.lean ====
section
/-! DEFINITION. Fence and system instructions (45_rv32i_instruction_map.md R137 to R139). -/

namespace Sys2Proof.Machine

/-- `FENCE` (R137): `decode_i` if 0x03 is in `DISPATCH_EXTRA`, else `UnknownOpcode(0x03)`; it orders nothing (R27). -/
def execFence (rd rs1 : RegIdx) (imm : BitVec 12) (s : State) : Host.Outcome State Fault Refusal :=
  returnIfKey s.params.dispatchExtra.miscMem (encode (.fence rd rs1 imm)) 0x03 (argsI rd rs1 imm) s

/-- `ECALL` (R138): `decode_i` if 0x1C is in `DISPATCH_EXTRA`, else `UnknownOpcode(0x1C)`; no environment call is made (R152). -/
def execEcall (s : State) : Host.Outcome State Fault Refusal :=
  returnIfKey s.params.dispatchExtra.system (encode .ecall) 0x1C (argsI 0 0 0x000) s

/-- `EBREAK` (R139): as ECALL, with immediate 1. -/
def execEbreak (s : State) : Host.Outcome State Fault Refusal :=
  returnIfKey s.params.dispatchExtra.system (encode .ebreak) 0x1C (argsI 0 0 0x001) s

end Sys2Proof.Machine
end

