-- ==== Sys2Proof/Machine/Loads.lean ====
section
/-! DEFINITION. Loads (45_rv32i_instruction_map.md R110 to R114): the full signed immediate for every funct3. -/

namespace Sys2Proof.Machine

/-- `LB` (R110): `Ok(I, [REG(rd), REG(rs1), IMM(imm_i)])`. -/
def execLb (rd rs1 : RegIdx) (imm : BitVec 12) (s : State) : Host.Outcome State Fault Refusal :=
  returnOk (encode (.lb rd rs1 imm)) .I (argsI rd rs1 imm) s

/-- `LH` (R111): `Ok(I, [REG(rd), REG(rs1), IMM(imm_i)])`. -/
def execLh (rd rs1 : RegIdx) (imm : BitVec 12) (s : State) : Host.Outcome State Fault Refusal :=
  returnOk (encode (.lh rd rs1 imm)) .I (argsI rd rs1 imm) s

/-- `LW` (R112): `Ok(I, [REG(rd), REG(rs1), IMM(imm_i)])`. -/
def execLw (rd rs1 : RegIdx) (imm : BitVec 12) (s : State) : Host.Outcome State Fault Refusal :=
  returnOk (encode (.lw rd rs1 imm)) .I (argsI rd rs1 imm) s

/-- `LBU` (R113): `Ok(I, [REG(rd), REG(rs1), IMM(imm_i)])`. -/
def execLbu (rd rs1 : RegIdx) (imm : BitVec 12) (s : State) : Host.Outcome State Fault Refusal :=
  returnOk (encode (.lbu rd rs1 imm)) .I (argsI rd rs1 imm) s

/-- `LHU` (R114): `Ok(I, [REG(rd), REG(rs1), IMM(imm_i)])`. -/
def execLhu (rd rs1 : RegIdx) (imm : BitVec 12) (s : State) : Host.Outcome State Fault Refusal :=
  returnOk (encode (.lhu rd rs1 imm)) .I (argsI rd rs1 imm) s

end Sys2Proof.Machine
end

