-- ==== Sys2Proof/Machine/OpImm.lean ====
section
/-! DEFINITION. Register-immediate arithmetic (45_rv32i_instruction_map.md R118 to R123). -/

namespace Sys2Proof.Machine

/-- `ADDI` (R118): the fall-back case of `decode_i_shamt`, `Ok(ISH, [REG(rd), REG(rs1), IMM(imm_i)])` (C4, C7; log 19). -/
def execAddi (rd rs1 : RegIdx) (imm : BitVec 12) (s : State) : Host.Outcome State Fault Refusal :=
  returnOk (encode (.addi rd rs1 imm)) .ISH (argsI rd rs1 imm) s

/-- `SLTI` (R119): the fall-back case of `decode_i_shamt`, `Ok(ISH, [REG(rd), REG(rs1), IMM(imm_i)])` (C4, C7; log 19). -/
def execSlti (rd rs1 : RegIdx) (imm : BitVec 12) (s : State) : Host.Outcome State Fault Refusal :=
  returnOk (encode (.slti rd rs1 imm)) .ISH (argsI rd rs1 imm) s

/-- `SLTIU` (R120): the fall-back case of `decode_i_shamt`, `Ok(ISH, [REG(rd), REG(rs1), IMM(imm_i)])` (C4, C7; log 19). -/
def execSltiu (rd rs1 : RegIdx) (imm : BitVec 12) (s : State) : Host.Outcome State Fault Refusal :=
  returnOk (encode (.sltiu rd rs1 imm)) .ISH (argsI rd rs1 imm) s

/-- `XORI` (R121): the fall-back case of `decode_i_shamt`, `Ok(ISH, [REG(rd), REG(rs1), IMM(imm_i)])` (C4, C7; log 19). -/
def execXori (rd rs1 : RegIdx) (imm : BitVec 12) (s : State) : Host.Outcome State Fault Refusal :=
  returnOk (encode (.xori rd rs1 imm)) .ISH (argsI rd rs1 imm) s

/-- `ORI` (R122): the fall-back case of `decode_i_shamt`, `Ok(ISH, [REG(rd), REG(rs1), IMM(imm_i)])` (C4, C7; log 19). -/
def execOri (rd rs1 : RegIdx) (imm : BitVec 12) (s : State) : Host.Outcome State Fault Refusal :=
  returnOk (encode (.ori rd rs1 imm)) .ISH (argsI rd rs1 imm) s

/-- `ANDI` (R123): the fall-back case of `decode_i_shamt`, `Ok(ISH, [REG(rd), REG(rs1), IMM(imm_i)])` (C4, C7; log 19). -/
def execAndi (rd rs1 : RegIdx) (imm : BitVec 12) (s : State) : Host.Outcome State Fault Refusal :=
  returnOk (encode (.andi rd rs1 imm)) .ISH (argsI rd rs1 imm) s

end Sys2Proof.Machine
end

