-- ==== Sys2Proof/Machine/OpReg.lean ====
section
/-! DEFINITION. Register-register instructions (45_rv32i_instruction_map.md R127 to R136): one list, told apart by the funct taps only. -/

namespace Sys2Proof.Machine

/-- `ADD` (R127): `Ok(R, [REG(rd), REG(rs1), REG(rs2)])`. -/
def execAdd (rd rs1 rs2 : RegIdx) (s : State) : Host.Outcome State Fault Refusal :=
  returnOk (encode (.add rd rs1 rs2)) .R (argsR rd rs1 rs2) s

/-- `SUB` (R128): `Ok(R, [REG(rd), REG(rs1), REG(rs2)])`. -/
def execSub (rd rs1 rs2 : RegIdx) (s : State) : Host.Outcome State Fault Refusal :=
  returnOk (encode (.sub rd rs1 rs2)) .R (argsR rd rs1 rs2) s

/-- `SLL` (R129): `Ok(R, [REG(rd), REG(rs1), REG(rs2)])`. -/
def execSll (rd rs1 rs2 : RegIdx) (s : State) : Host.Outcome State Fault Refusal :=
  returnOk (encode (.sll rd rs1 rs2)) .R (argsR rd rs1 rs2) s

/-- `SLT` (R130): `Ok(R, [REG(rd), REG(rs1), REG(rs2)])`. -/
def execSlt (rd rs1 rs2 : RegIdx) (s : State) : Host.Outcome State Fault Refusal :=
  returnOk (encode (.slt rd rs1 rs2)) .R (argsR rd rs1 rs2) s

/-- `SLTU` (R131): `Ok(R, [REG(rd), REG(rs1), REG(rs2)])`. -/
def execSltu (rd rs1 rs2 : RegIdx) (s : State) : Host.Outcome State Fault Refusal :=
  returnOk (encode (.sltu rd rs1 rs2)) .R (argsR rd rs1 rs2) s

/-- `XOR` (R132): `Ok(R, [REG(rd), REG(rs1), REG(rs2)])`. -/
def execXor (rd rs1 rs2 : RegIdx) (s : State) : Host.Outcome State Fault Refusal :=
  returnOk (encode (.xor rd rs1 rs2)) .R (argsR rd rs1 rs2) s

/-- `SRL` (R133): `Ok(R, [REG(rd), REG(rs1), REG(rs2)])`. -/
def execSrl (rd rs1 rs2 : RegIdx) (s : State) : Host.Outcome State Fault Refusal :=
  returnOk (encode (.srl rd rs1 rs2)) .R (argsR rd rs1 rs2) s

/-- `SRA` (R134): `Ok(R, [REG(rd), REG(rs1), REG(rs2)])`. -/
def execSra (rd rs1 rs2 : RegIdx) (s : State) : Host.Outcome State Fault Refusal :=
  returnOk (encode (.sra rd rs1 rs2)) .R (argsR rd rs1 rs2) s

/-- `OR` (R135): `Ok(R, [REG(rd), REG(rs1), REG(rs2)])`. -/
def execOr (rd rs1 rs2 : RegIdx) (s : State) : Host.Outcome State Fault Refusal :=
  returnOk (encode (.or rd rs1 rs2)) .R (argsR rd rs1 rs2) s

/-- `AND` (R136): `Ok(R, [REG(rd), REG(rs1), REG(rs2)])`. -/
def execAnd (rd rs1 rs2 : RegIdx) (s : State) : Host.Outcome State Fault Refusal :=
  returnOk (encode (.and rd rs1 rs2)) .R (argsR rd rs1 rs2) s

end Sys2Proof.Machine
end

