-- ==== Sys2Proof/Machine/ShiftImm.lean ====
section
/-! DEFINITION. Shift-immediate instructions (45_rv32i_instruction_map.md R124 to R126): bits [31:25] are in no operand. -/

namespace Sys2Proof.Machine

/-- `SLLI` (R124): the shift case of `decode_i_shamt`, `Ok(ISH, [REG(rd), REG(rs1), SHAMT(rs2)])`. -/
def execSlli (rd rs1 : RegIdx) (shamt : BitVec 5) (s : State) : Host.Outcome State Fault Refusal :=
  returnOk (encode (.slli rd rs1 shamt)) .ISH (argsShamt rd rs1 shamt) s

/-- `SRLI` (R125): the shift case of `decode_i_shamt`, `Ok(ISH, [REG(rd), REG(rs1), SHAMT(rs2)])`. -/
def execSrli (rd rs1 : RegIdx) (shamt : BitVec 5) (s : State) : Host.Outcome State Fault Refusal :=
  returnOk (encode (.srli rd rs1 shamt)) .ISH (argsShamt rd rs1 shamt) s

/-- `SRAI` (R126): the shift case of `decode_i_shamt`, `Ok(ISH, [REG(rd), REG(rs1), SHAMT(rs2)])`. -/
def execSrai (rd rs1 : RegIdx) (shamt : BitVec 5) (s : State) : Host.Outcome State Fault Refusal :=
  returnOk (encode (.srai rd rs1 shamt)) .ISH (argsShamt rd rs1 shamt) s

end Sys2Proof.Machine
end

