-- ==== Sys2Proof/Machine/Stores.lean ====
section
/-! DEFINITION. Stores (45_rv32i_instruction_map.md R115 to R117). -/

namespace Sys2Proof.Machine

/-- `SB` (R115): `Ok(S, [REG(rs1), REG(rs2), IMM(imm_s)])`, base register first. -/
def execSb (rs1 rs2 : RegIdx) (imm : BitVec 12) (s : State) : Host.Outcome State Fault Refusal :=
  returnOk (encode (.sb rs1 rs2 imm)) .S (argsS rs1 rs2 imm) s

/-- `SH` (R116): `Ok(S, [REG(rs1), REG(rs2), IMM(imm_s)])`, base register first. -/
def execSh (rs1 rs2 : RegIdx) (imm : BitVec 12) (s : State) : Host.Outcome State Fault Refusal :=
  returnOk (encode (.sh rs1 rs2 imm)) .S (argsS rs1 rs2 imm) s

/-- `SW` (R117): `Ok(S, [REG(rs1), REG(rs2), IMM(imm_s)])`, base register first. -/
def execSw (rs1 rs2 : RegIdx) (imm : BitVec 12) (s : State) : Host.Outcome State Fault Refusal :=
  returnOk (encode (.sw rs1 rs2 imm)) .S (argsS rs1 rs2 imm) s

end Sys2Proof.Machine
end

