-- ==== Sys2Proof/Machine/Unknown.lean ====
section
/-! DEFINITION. The 21 opcode values that are in the dispatch table under no parameter (44_opcode_dispatch.md R89): each word of
them gives the error result, on the ports, and the machine goes on (60_exceptions.md R150, R156). -/

namespace Sys2Proof.Machine

/-- Opcode value 0x01 (R89): `UnknownOpcode(0x01)`. -/
def execClassUnknown01 (low : BitVec 2) (rest : BitVec 25) (s : State) : Host.Outcome State Fault Refusal :=
  raiseUnknownOpcode (encode (.classUnknown01 low rest)) 0x01 s

/-- Opcode value 0x02 (R89): `UnknownOpcode(0x02)`. -/
def execClassUnknown02 (low : BitVec 2) (rest : BitVec 25) (s : State) : Host.Outcome State Fault Refusal :=
  raiseUnknownOpcode (encode (.classUnknown02 low rest)) 0x02 s

/-- Opcode value 0x06 (R89): `UnknownOpcode(0x06)`. -/
def execClassUnknown06 (low : BitVec 2) (rest : BitVec 25) (s : State) : Host.Outcome State Fault Refusal :=
  raiseUnknownOpcode (encode (.classUnknown06 low rest)) 0x06 s

/-- Opcode value 0x07 (R89): `UnknownOpcode(0x07)`. -/
def execClassUnknown07 (low : BitVec 2) (rest : BitVec 25) (s : State) : Host.Outcome State Fault Refusal :=
  raiseUnknownOpcode (encode (.classUnknown07 low rest)) 0x07 s

/-- Opcode value 0x09 (R89): `UnknownOpcode(0x09)`. -/
def execClassUnknown09 (low : BitVec 2) (rest : BitVec 25) (s : State) : Host.Outcome State Fault Refusal :=
  raiseUnknownOpcode (encode (.classUnknown09 low rest)) 0x09 s

/-- Opcode value 0x0A (R89): `UnknownOpcode(0x0A)`. -/
def execClassUnknown0A (low : BitVec 2) (rest : BitVec 25) (s : State) : Host.Outcome State Fault Refusal :=
  raiseUnknownOpcode (encode (.classUnknown0A low rest)) 0x0A s

/-- Opcode value 0x0B (R89): `UnknownOpcode(0x0B)`. -/
def execClassUnknown0B (low : BitVec 2) (rest : BitVec 25) (s : State) : Host.Outcome State Fault Refusal :=
  raiseUnknownOpcode (encode (.classUnknown0B low rest)) 0x0B s

/-- Opcode value 0x0E (R89): `UnknownOpcode(0x0E)`. -/
def execClassUnknown0E (low : BitVec 2) (rest : BitVec 25) (s : State) : Host.Outcome State Fault Refusal :=
  raiseUnknownOpcode (encode (.classUnknown0E low rest)) 0x0E s

/-- Opcode value 0x0F (R89): `UnknownOpcode(0x0F)`. -/
def execClassUnknown0F (low : BitVec 2) (rest : BitVec 25) (s : State) : Host.Outcome State Fault Refusal :=
  raiseUnknownOpcode (encode (.classUnknown0F low rest)) 0x0F s

/-- Opcode value 0x10 (R89): `UnknownOpcode(0x10)`. -/
def execClassUnknown10 (low : BitVec 2) (rest : BitVec 25) (s : State) : Host.Outcome State Fault Refusal :=
  raiseUnknownOpcode (encode (.classUnknown10 low rest)) 0x10 s

/-- Opcode value 0x11 (R89): `UnknownOpcode(0x11)`. -/
def execClassUnknown11 (low : BitVec 2) (rest : BitVec 25) (s : State) : Host.Outcome State Fault Refusal :=
  raiseUnknownOpcode (encode (.classUnknown11 low rest)) 0x11 s

/-- Opcode value 0x12 (R89): `UnknownOpcode(0x12)`. -/
def execClassUnknown12 (low : BitVec 2) (rest : BitVec 25) (s : State) : Host.Outcome State Fault Refusal :=
  raiseUnknownOpcode (encode (.classUnknown12 low rest)) 0x12 s

/-- Opcode value 0x13 (R89): `UnknownOpcode(0x13)`. -/
def execClassUnknown13 (low : BitVec 2) (rest : BitVec 25) (s : State) : Host.Outcome State Fault Refusal :=
  raiseUnknownOpcode (encode (.classUnknown13 low rest)) 0x13 s

/-- Opcode value 0x14 (R89): `UnknownOpcode(0x14)`. -/
def execClassUnknown14 (low : BitVec 2) (rest : BitVec 25) (s : State) : Host.Outcome State Fault Refusal :=
  raiseUnknownOpcode (encode (.classUnknown14 low rest)) 0x14 s

/-- Opcode value 0x15 (R89): `UnknownOpcode(0x15)`. -/
def execClassUnknown15 (low : BitVec 2) (rest : BitVec 25) (s : State) : Host.Outcome State Fault Refusal :=
  raiseUnknownOpcode (encode (.classUnknown15 low rest)) 0x15 s

/-- Opcode value 0x16 (R89): `UnknownOpcode(0x16)`. -/
def execClassUnknown16 (low : BitVec 2) (rest : BitVec 25) (s : State) : Host.Outcome State Fault Refusal :=
  raiseUnknownOpcode (encode (.classUnknown16 low rest)) 0x16 s

/-- Opcode value 0x17 (R89): `UnknownOpcode(0x17)`. -/
def execClassUnknown17 (low : BitVec 2) (rest : BitVec 25) (s : State) : Host.Outcome State Fault Refusal :=
  raiseUnknownOpcode (encode (.classUnknown17 low rest)) 0x17 s

/-- Opcode value 0x1A (R89): `UnknownOpcode(0x1A)`. -/
def execClassUnknown1A (low : BitVec 2) (rest : BitVec 25) (s : State) : Host.Outcome State Fault Refusal :=
  raiseUnknownOpcode (encode (.classUnknown1A low rest)) 0x1A s

/-- Opcode value 0x1D (R89): `UnknownOpcode(0x1D)`. -/
def execClassUnknown1D (low : BitVec 2) (rest : BitVec 25) (s : State) : Host.Outcome State Fault Refusal :=
  raiseUnknownOpcode (encode (.classUnknown1D low rest)) 0x1D s

/-- Opcode value 0x1E (R89): `UnknownOpcode(0x1E)`. -/
def execClassUnknown1E (low : BitVec 2) (rest : BitVec 25) (s : State) : Host.Outcome State Fault Refusal :=
  raiseUnknownOpcode (encode (.classUnknown1E low rest)) 0x1E s

/-- Opcode value 0x1F (R89): `UnknownOpcode(0x1F)`. -/
def execClassUnknown1F (low : BitVec 2) (rest : BitVec 25) (s : State) : Host.Outcome State Fault Refusal :=
  raiseUnknownOpcode (encode (.classUnknown1F low rest)) 0x1F s

end Sys2Proof.Machine
end

