-- ==== Sys2Proof/Machine/UpperJump.lean ====
section
/-! DEFINITION. Upper-immediate and jump instructions (45_rv32i_instruction_map.md R100 to R103). -/

namespace Sys2Proof.Machine

/-- `LUI` (R100): `Ok(U, [REG(rd), IMM(imm_u)])`, the immediate not shifted (R167). -/
def execLui (rd : RegIdx) (imm : BitVec 20) (s : State) : Host.Outcome State Fault Refusal :=
  returnOk (encode (.lui rd imm)) .U (argsU rd imm) s

/-- `AUIPC` (R101): the same list as LUI; only the opcode tap differs. -/
def execAuipc (rd : RegIdx) (imm : BitVec 20) (s : State) : Host.Outcome State Fault Refusal :=
  returnOk (encode (.auipc rd imm)) .U (argsU rd imm) s

/-- `JAL` (R102): `Ok(J, [REG(rd), IMM(imm_j)])`; no target is computed (R171). -/
def execJal (rd : RegIdx) (imm : BitVec 21) (s : State) : Host.Outcome State Fault Refusal :=
  returnOk (encode (.jal rd imm)) .J (argsJ rd imm) s

/-- `JALR` (R103): `Ok(I, [REG(rd), REG(rs1), IMM(imm_i)])`, through `decode_i` (C8, D8; log 18). -/
def execJalr (rd rs1 : RegIdx) (imm : BitVec 12) (s : State) : Host.Outcome State Fault Refusal :=
  returnOk (encode (.jalr rd rs1 imm)) .I (argsI rd rs1 imm) s

end Sys2Proof.Machine
end

