-- ==== Sys2Proof/Machine/Dispatch.lean ====
section
/-! DEFINITION. One arm per row of spec/opcode_table.json; the meanings are in the family files. -/

namespace Sys2Proof.Machine

/-- What the block drives for an instruction: its meaning, on the state it finds. -/
def exec (i : Instr) (s : State) : Host.Outcome State Fault Refusal :=
  match i with
  | .lui rd imm => Sys2Proof.Machine.execLui rd imm s
  | .auipc rd imm => Sys2Proof.Machine.execAuipc rd imm s
  | .jal rd imm => Sys2Proof.Machine.execJal rd imm s
  | .jalr rd rs1 imm => Sys2Proof.Machine.execJalr rd rs1 imm s
  | .beq rs1 rs2 imm => Sys2Proof.Machine.execBeq rs1 rs2 imm s
  | .bne rs1 rs2 imm => Sys2Proof.Machine.execBne rs1 rs2 imm s
  | .blt rs1 rs2 imm => Sys2Proof.Machine.execBlt rs1 rs2 imm s
  | .bge rs1 rs2 imm => Sys2Proof.Machine.execBge rs1 rs2 imm s
  | .bltu rs1 rs2 imm => Sys2Proof.Machine.execBltu rs1 rs2 imm s
  | .bgeu rs1 rs2 imm => Sys2Proof.Machine.execBgeu rs1 rs2 imm s
  | .lb rd rs1 imm => Sys2Proof.Machine.execLb rd rs1 imm s
  | .lh rd rs1 imm => Sys2Proof.Machine.execLh rd rs1 imm s
  | .lw rd rs1 imm => Sys2Proof.Machine.execLw rd rs1 imm s
  | .lbu rd rs1 imm => Sys2Proof.Machine.execLbu rd rs1 imm s
  | .lhu rd rs1 imm => Sys2Proof.Machine.execLhu rd rs1 imm s
  | .sb rs1 rs2 imm => Sys2Proof.Machine.execSb rs1 rs2 imm s
  | .sh rs1 rs2 imm => Sys2Proof.Machine.execSh rs1 rs2 imm s
  | .sw rs1 rs2 imm => Sys2Proof.Machine.execSw rs1 rs2 imm s
  | .addi rd rs1 imm => Sys2Proof.Machine.execAddi rd rs1 imm s
  | .slti rd rs1 imm => Sys2Proof.Machine.execSlti rd rs1 imm s
  | .sltiu rd rs1 imm => Sys2Proof.Machine.execSltiu rd rs1 imm s
  | .xori rd rs1 imm => Sys2Proof.Machine.execXori rd rs1 imm s
  | .ori rd rs1 imm => Sys2Proof.Machine.execOri rd rs1 imm s
  | .andi rd rs1 imm => Sys2Proof.Machine.execAndi rd rs1 imm s
  | .slli rd rs1 shamt => Sys2Proof.Machine.execSlli rd rs1 shamt s
  | .srli rd rs1 shamt => Sys2Proof.Machine.execSrli rd rs1 shamt s
  | .srai rd rs1 shamt => Sys2Proof.Machine.execSrai rd rs1 shamt s
  | .add rd rs1 rs2 => Sys2Proof.Machine.execAdd rd rs1 rs2 s
  | .sub rd rs1 rs2 => Sys2Proof.Machine.execSub rd rs1 rs2 s
  | .sll rd rs1 rs2 => Sys2Proof.Machine.execSll rd rs1 rs2 s
  | .slt rd rs1 rs2 => Sys2Proof.Machine.execSlt rd rs1 rs2 s
  | .sltu rd rs1 rs2 => Sys2Proof.Machine.execSltu rd rs1 rs2 s
  | .xor rd rs1 rs2 => Sys2Proof.Machine.execXor rd rs1 rs2 s
  | .srl rd rs1 rs2 => Sys2Proof.Machine.execSrl rd rs1 rs2 s
  | .sra rd rs1 rs2 => Sys2Proof.Machine.execSra rd rs1 rs2 s
  | .or rd rs1 rs2 => Sys2Proof.Machine.execOr rd rs1 rs2 s
  | .and rd rs1 rs2 => Sys2Proof.Machine.execAnd rd rs1 rs2 s
  | .fence rd rs1 imm => Sys2Proof.Machine.execFence rd rs1 imm s
  | .ecall => Sys2Proof.Machine.execEcall s
  | .ebreak => Sys2Proof.Machine.execEbreak s
  | .classLoad low funct3 rd rs1 imm => Sys2Proof.Machine.execClassLoad low funct3 rd rs1 imm s
  | .classOpImm low funct3 rd rs1 imm => Sys2Proof.Machine.execClassOpImm low funct3 rd rs1 imm s
  | .classAuipc low rd imm => Sys2Proof.Machine.execClassAuipc low rd imm s
  | .classStore low funct3 rs1 rs2 imm => Sys2Proof.Machine.execClassStore low funct3 rs1 rs2 imm s
  | .classOp low funct7 funct3 rd rs1 rs2 => Sys2Proof.Machine.execClassOp low funct7 funct3 rd rs1 rs2 s
  | .classLui low rd imm => Sys2Proof.Machine.execClassLui low rd imm s
  | .classBranch low funct3 rs1 rs2 imm => Sys2Proof.Machine.execClassBranch low funct3 rs1 rs2 imm s
  | .classJalr low funct3 rd rs1 imm => Sys2Proof.Machine.execClassJalr low funct3 rd rs1 imm s
  | .classJal low rd imm => Sys2Proof.Machine.execClassJal low rd imm s
  | .classMiscMem low funct3 rd rs1 imm => Sys2Proof.Machine.execClassMiscMem low funct3 rd rs1 imm s
  | .classSystem low funct3 rd rs1 imm => Sys2Proof.Machine.execClassSystem low funct3 rd rs1 imm s
  | .classUnknown01 low rest => Sys2Proof.Machine.execClassUnknown01 low rest s
  | .classUnknown02 low rest => Sys2Proof.Machine.execClassUnknown02 low rest s
  | .classUnknown06 low rest => Sys2Proof.Machine.execClassUnknown06 low rest s
  | .classUnknown07 low rest => Sys2Proof.Machine.execClassUnknown07 low rest s
  | .classUnknown09 low rest => Sys2Proof.Machine.execClassUnknown09 low rest s
  | .classUnknown0A low rest => Sys2Proof.Machine.execClassUnknown0A low rest s
  | .classUnknown0B low rest => Sys2Proof.Machine.execClassUnknown0B low rest s
  | .classUnknown0E low rest => Sys2Proof.Machine.execClassUnknown0E low rest s
  | .classUnknown0F low rest => Sys2Proof.Machine.execClassUnknown0F low rest s
  | .classUnknown10 low rest => Sys2Proof.Machine.execClassUnknown10 low rest s
  | .classUnknown11 low rest => Sys2Proof.Machine.execClassUnknown11 low rest s
  | .classUnknown12 low rest => Sys2Proof.Machine.execClassUnknown12 low rest s
  | .classUnknown13 low rest => Sys2Proof.Machine.execClassUnknown13 low rest s
  | .classUnknown14 low rest => Sys2Proof.Machine.execClassUnknown14 low rest s
  | .classUnknown15 low rest => Sys2Proof.Machine.execClassUnknown15 low rest s
  | .classUnknown16 low rest => Sys2Proof.Machine.execClassUnknown16 low rest s
  | .classUnknown17 low rest => Sys2Proof.Machine.execClassUnknown17 low rest s
  | .classUnknown1A low rest => Sys2Proof.Machine.execClassUnknown1A low rest s
  | .classUnknown1D low rest => Sys2Proof.Machine.execClassUnknown1D low rest s
  | .classUnknown1E low rest => Sys2Proof.Machine.execClassUnknown1E low rest s
  | .classUnknown1F low rest => Sys2Proof.Machine.execClassUnknown1F low rest s

end Sys2Proof.Machine
end

