-- ==== Sys2Proof/Machine/Step.lean ====
section
/-! DEFINITION. One step: the block settles on the word that stands on `instr_i` (log 1). There is no program counter and no fetch (R12, R21): the caller
places each word (R18). -/

namespace Sys2Proof.Machine

/-- Find the row of the word on the input port and drive what that row gives. -/
def step (s : State) : Host.Outcome State Fault Refusal :=
  exec (decodeWord s.instr_i) s

/-- The state with a word of the opcode table on the input port, the bits above `nbits` zero: `present` is all it takes to have the very next
step run it (log 8). -/
def State.withFetchWord (s : State) (nbits w : Nat) : State :=
  s.present (w % 2 ^ nbits)

end Sys2Proof.Machine
end

