-- ==== Sys2Proof/Machine/View.lean ====
section
/-! DEFINITION. What a consumer reads from the ports: the result (10_state.md R14, R17, R8) and its named view (R15). Neither is part of a step. -/

namespace Sys2Proof.Machine

/-- The format tag with a given code; 7 is none (R17). -/
def Fmt.ofCode (c : BitVec 3) : Option Fmt :=
  match c with
  | 0 => some .R
  | 1 => some .I
  | 2 => some .ISH
  | 3 => some .S
  | 4 => some .B
  | 5 => some .U
  | 6 => some .J
  | _ => none

/-- The operand a kind and a value port show (R14); an immediate is recovered by `sign_extend(port, 32)` (R8). -/
def Operand.ofPort (kind : BitVec 2) (val : BitVec 32) : Option Operand :=
  match kind with
  | 1 => some (.reg (val.setWidth 5))
  | 2 => some (.imm (signExtend val.toNat 32))
  | 3 => some (.shamt (val.setWidth 5))
  | _ => none

/-- The operand list on the ports. -/
def Ports.args (p : Ports) : List Operand :=
  [Operand.ofPort p.arg0_kind_o p.arg0_val_o, Operand.ofPort p.arg1_kind_o p.arg1_val_o, Operand.ofPort p.arg2_kind_o p.arg2_val_o].filterMap id

/-- The result the ports show. `err_o` is tested first (R175); the error's payload is on `opcode_o` (R150). -/
def Ports.result (p : Ports) : Option Result :=
  if p.err_o = 1 then some (.unknownOpcode p.opcode_o)
  else (Fmt.ofCode p.fmt_o).map fun fmt => .ok fmt p.args

/-- An element of a named view: a register name or an integer (R15). -/
inductive NamedArg where
  | name (n : String)
  | int (k : Int)
  deriving DecidableEq, Repr

/-- The element for an operand (R15): a shift amount is the integer, never a name (R174). -/
def Operand.named (names : RegNames) : Operand → NamedArg
  | .reg i => .name (names.get i.toFin)
  | .imm s => .int s
  | .shamt n => .int n.toNat

/-- The named view of a result (R15): the source's argument list; an error has none. -/
def Result.namedView (names : RegNames) : Result → Option (List NamedArg)
  | .ok _ args => some (args.map (Operand.named names))
  | .unknownOpcode _ => none

/-- The named view of what an instance's ports show, through its own table. -/
def State.namedView (s : State) : Option (List NamedArg) :=
  s.out.result.bind (Result.namedView s.params.regname)

end Sys2Proof.Machine
end

