-- ==== Sys2Proof/Machine/Stream.lean ====
section
/-! DEFINITION. A caller that presents one value after another to one instance and reads the ports after each step (10_state.md R19; 95_test_vectors.md
section 8: a sequence of results, each independent of the others). -/

namespace Sys2Proof.Machine

/-- The results read, one per value presented; the list ends early only if a step stopped. -/
def feed : List Nat → State → List (Option Result)
  | [], _ => []
  | x :: xs, s =>
    match step (s.present x) with
    | .next t => t.out.result :: feed xs t
    | .fault _ => []
    | .refused _ => []

end Sys2Proof.Machine
end

