-- ==== Sys2Proof/Safety.lean ====
section
/-! DEFINITION. The terms in which claims speak of a good state: the ports agree with the input (10_state.md R10, R20), they have a legal shape (R14, R17), and the
word was accepted or rejected (60_exceptions.md R150). -/

namespace Sys2Proof.Machine

/-- The outputs are the function of the word on the input that R13 to R17 and R87 define. -/
abbrev State.Settled (s : State) : Prop :=
  s.out = portsOf s.instr_i (dispatch s.params.dispatchExtra s.instr_i)

/-- The word was rejected (R175: to be tested first). -/
abbrev State.Rejected (s : State) : Prop := s.out.err_o = 1

/-- The word was accepted. -/
abbrev State.Accepted (s : State) : Prop := s.out.err_o = 0

/-- The code a kind port shows and the value beside it belong together (R14): none shows 0, an index and a shift amount are below 32. -/
abbrev LegalOperand (kind : BitVec 2) (val : BitVec 32) : Prop :=
  (kind = 0 → val = 0) ∧ (kind = 1 → val.toNat < 32) ∧ (kind = 3 → val.toNat < 32)

/-- The ports have one of the eight shapes of R17's table: the error with no operand at all, or the number and the kinds of operands of the tag shown. -/
abbrev Ports.Legal (p : Ports) : Prop :=
  LegalOperand p.arg0_kind_o p.arg0_val_o ∧ LegalOperand p.arg1_kind_o p.arg1_val_o ∧ LegalOperand p.arg2_kind_o p.arg2_val_o ∧
  ((p.err_o = 1 ∧ p.fmt_o = 7 ∧ p.nargs_o = 0 ∧ p.arg0_kind_o = 0 ∧ p.arg1_kind_o = 0 ∧ p.arg2_kind_o = 0) ∨
   (p.err_o = 0 ∧ p.fmt_o = 0 ∧ p.nargs_o = 3 ∧ p.arg0_kind_o = 1 ∧ p.arg1_kind_o = 1 ∧ p.arg2_kind_o = 1) ∨
   (p.err_o = 0 ∧ (p.fmt_o = 1 ∨ p.fmt_o = 3 ∨ p.fmt_o = 4) ∧ p.nargs_o = 3 ∧ p.arg0_kind_o = 1 ∧ p.arg1_kind_o = 1 ∧ p.arg2_kind_o = 2) ∨
   (p.err_o = 0 ∧ p.fmt_o = 2 ∧ p.nargs_o = 3 ∧ p.arg0_kind_o = 1 ∧ p.arg1_kind_o = 1 ∧ (p.arg2_kind_o = 2 ∨ p.arg2_kind_o = 3)) ∨
   (p.err_o = 0 ∧ (p.fmt_o = 5 ∨ p.fmt_o = 6) ∧ p.nargs_o = 2 ∧ p.arg0_kind_o = 1 ∧ p.arg1_kind_o = 2 ∧ p.arg2_kind_o = 0))

end Sys2Proof.Machine
end

