-- ==== Sys2Proof/Certificates/Slice0/Obligations.lean ====
section
/-! DEFINITION. The statements about this model. The terms they share come first (namespace Claims); a word's parts are written there by shift and mask on
numbers, not by the model's own accessors, so that a statement about the ports is a statement about the word. -/

open Sys2Proof Sys2Proof.Machine

/-! ### Terms the statements share -/

/-- The eight taps of R13 for a word, by the exact masks of R50 to R57. -/
def Claims.TapsOf (p : Ports) (w : Word) : Prop :=
  p.opcode_o.toNat = (w.toNat >>> 2) &&& 0x1F ∧ p.rd_o.toNat = (w.toNat >>> 7) &&& 0x1F ∧
  p.funct3_o.toNat = (w.toNat >>> 12) &&& 0x7 ∧ p.rs1_o.toNat = (w.toNat >>> 15) &&& 0x1F ∧
  p.rs2_o.toNat = (w.toNat >>> 20) &&& 0x1F ∧ p.funct7_o.toNat = (w.toNat >>> 25) &&& 0x7F ∧
  p.imm110_o.toNat = (w.toNat >>> 20) &&& 0xFFF ∧ p.imm3112_o.toNat = (w.toNat >>> 12) &&& 0xFFFFF

/-- The step from `s` completes; its ports read as the result `r`; the taps are the fields of the word on the input; the input and the parameters
are as before (the frame: they and the ports are all there is). -/
def Claims.Shows (s : State) (r : Result) : Prop :=
  ∃ t, step s = .next t ∧ t.instr_i = s.instr_i ∧ t.params = s.params ∧ t.out.result = some r ∧ Claims.TapsOf t.out s.instr_i

/-- `s` with the word `w` on its input port. -/
def Claims.on (s : State) (w : Word) : State := { s with instr_i := w }

/-- Ports with the given fields on the taps and the error on the rest (R17, R150). -/
def Claims.rejected (op : BitVec 5) (rd : RegIdx) (f3 : BitVec 3) (rs1 rs2 : RegIdx) (f7 : BitVec 7) : Ports :=
  { opcode_o := op, rd_o := rd, funct3_o := f3, rs1_o := rs1, rs2_o := rs2, funct7_o := f7
    imm110_o := f7 ++ rs2, imm3112_o := f7 ++ rs2 ++ rs1 ++ f3
    err_o := 1, fmt_o := 7, nargs_o := 0
    arg0_kind_o := 0, arg1_kind_o := 0, arg2_kind_o := 0
    arg0_val_o := 0, arg1_val_o := 0, arg2_val_o := 0 }

/-- The ports `p` with two operands shown (R14, R17). -/
def Claims.two (p : Ports) (fmt : BitVec 3) (k0 : BitVec 2) (v0 : BitVec 32) (k1 : BitVec 2) (v1 : BitVec 32) : Ports :=
  { p with err_o := 0, fmt_o := fmt, nargs_o := 2, arg0_kind_o := k0, arg0_val_o := v0, arg1_kind_o := k1, arg1_val_o := v1 }

/-- The ports `p` with three operands shown. -/
def Claims.three (p : Ports) (fmt : BitVec 3) (k0 : BitVec 2) (v0 : BitVec 32) (k1 : BitVec 2) (v1 : BitVec 32) (k2 : BitVec 2) (v2 : BitVec 32) : Ports :=
  { p with err_o := 0, fmt_o := fmt, nargs_o := 3, arg0_kind_o := k0, arg0_val_o := v0, arg1_kind_o := k1, arg1_val_o := v1
           arg2_kind_o := k2, arg2_val_o := v2 }

/-- The taps of an I-layout word, with the error on the rest. -/
def Claims.rejectedI (op : BitVec 5) (f3 : BitVec 3) (rd rs1 : RegIdx) (imm : BitVec 12) : Ports :=
  Claims.rejected op rd f3 rs1 (imm.extractLsb' 0 5) (imm.extractLsb' 5 7)

/-- All ports of an I-layout word whose list is `[REG(rd), REG(rs1), IMM(imm)]`, under the tag `fmt`. -/
def Claims.portsI (fmt : BitVec 3) (op : BitVec 5) (f3 : BitVec 3) (rd rs1 : RegIdx) (imm : BitVec 12) : Ports :=
  Claims.three (Claims.rejectedI op f3 rd rs1 imm) fmt 1 (rd.setWidth 32) 1 (rs1.setWidth 32) 2 (imm.signExtend 32)

/-- All ports of a shift-immediate word: `[REG(rd), REG(rs1), SHAMT(shamt)]`, tag ISH. -/
def Claims.portsShift (f7 : BitVec 7) (f3 : BitVec 3) (rd rs1 : RegIdx) (shamt : BitVec 5) : Ports :=
  Claims.three (Claims.rejected 0x04 rd f3 rs1 shamt f7) 2 1 (rd.setWidth 32) 1 (rs1.setWidth 32) 3 (shamt.setWidth 32)

/-- All ports of an OP-IMM word: the shift case for funct3 1 and 5, the immediate case for every other (R77). -/
def Claims.portsISH (f3 : BitVec 3) (rd rs1 : RegIdx) (imm : BitVec 12) : Ports :=
  if f3 = 1 ∨ f3 = 5 then Claims.portsShift (imm.extractLsb' 5 7) f3 rd rs1 (imm.extractLsb' 0 5)
  else Claims.portsI 2 0x04 f3 rd rs1 imm

/-- All ports of a word of an open class (R88): the I list where the key is present, the error where it is not. -/
def Claims.portsOpen (present : Bool) (op : BitVec 5) (f3 : BitVec 3) (rd rs1 : RegIdx) (imm : BitVec 12) : Ports :=
  if present = true then Claims.portsI 1 op f3 rd rs1 imm else Claims.rejectedI op f3 rd rs1 imm

/-- All ports of an R-layout word: `[REG(rd), REG(rs1), REG(rs2)]`, tag R. -/
def Claims.portsR (f7 : BitVec 7) (f3 : BitVec 3) (rd rs1 rs2 : RegIdx) : Ports :=
  Claims.three (Claims.rejected 0x0C rd f3 rs1 rs2 f7) 0 1 (rd.setWidth 32) 1 (rs1.setWidth 32) 1 (rs2.setWidth 32)

/-- All ports of an S-layout word: `[REG(rs1), REG(rs2), IMM(imm)]`, tag S; the rd position holds imm[4:0]. -/
def Claims.portsS (f3 : BitVec 3) (rs1 rs2 : RegIdx) (imm : BitVec 12) : Ports :=
  Claims.three (Claims.rejected 0x08 (imm.extractLsb' 0 5) f3 rs1 rs2 (imm.extractLsb' 5 7)) 3
    1 (rs1.setWidth 32) 1 (rs2.setWidth 32) 2 (imm.signExtend 32)

/-- All ports of a B-layout word: `[REG(rs1), REG(rs2), IMM(imm)]`, tag B; the rd position holds imm[4:1] and imm[11]. -/
def Claims.portsB (f3 : BitVec 3) (rs1 rs2 : RegIdx) (imm : BitVec 13) : Ports :=
  Claims.three (Claims.rejected 0x18 (imm.extractLsb' 1 4 ++ imm.extractLsb' 11 1) f3 rs1 rs2 (imm.extractLsb' 12 1 ++ imm.extractLsb' 5 6)) 4
    1 (rs1.setWidth 32) 1 (rs2.setWidth 32) 2 (imm.signExtend 32)

/-- All ports of a U-layout word: `[REG(rd), IMM(imm)]`, tag U, the immediate not shifted. -/
def Claims.portsU (op : BitVec 5) (rd : RegIdx) (imm : BitVec 20) : Ports :=
  Claims.two (Claims.rejected op rd (imm.extractLsb' 0 3) (imm.extractLsb' 3 5) (imm.extractLsb' 8 5) (imm.extractLsb' 13 7)) 5
    1 (rd.setWidth 32) 2 (imm.signExtend 32)

/-- All ports of a J-layout word: `[REG(rd), IMM(imm)]`, tag J; word bits [31:12] are imm[20], imm[10:1], imm[11], imm[19:12] (R38). -/
def Claims.portsJ (rd : RegIdx) (imm : BitVec 21) : Ports :=
  Claims.two (Claims.rejected 0x1B rd (imm.extractLsb' 12 3) (imm.extractLsb' 15 5) (imm.extractLsb' 1 4 ++ imm.extractLsb' 11 1)
    (imm.extractLsb' 20 1 ++ imm.extractLsb' 5 6)) 6 1 (rd.setWidth 32) 2 (imm.signExtend 32)

/-- All ports of a word of an unknown class, its bits [31:7] being `rest`: the error, the taps valid. -/
def Claims.portsUnknown (op : BitVec 5) (rest : BitVec 25) : Ports :=
  Claims.rejected op (rest.extractLsb' 0 5) (rest.extractLsb' 5 3) (rest.extractLsb' 8 5) (rest.extractLsb' 13 5) (rest.extractLsb' 18 7)

/-- The key is in the dispatch table of an instance (R89, the set K). -/
def Claims.InK (e : DispatchExtra) (op : BitVec 5) : Prop :=
  op ∈ [0x00, 0x04, 0x05, 0x08, 0x0C, 0x0D, 0x18, 0x19, 0x1B] ∨ (op = 0x03 ∧ e.miscMem = true) ∨ (op = 0x1C ∧ e.system = true)

/-- `[REG(rd), REG(rs1), IMM(imm_i)]` of a word. -/
def Claims.listI (w : Word) : List Operand := [.reg (Fields.rd w), .reg (Fields.rs1 w), .imm (immI w)]

/-! ### Decoding: rows, encodings, one step -/

/-- A step runs the instruction of the word on the input port: from its bytes (R22), from any of its encodings, and with exactly `exec` (D22: nothing is
added around it; log 1). -/
def Obligations.StepRunsTheDecodedInstruction : Prop :=
  (∀ (s : State) (b0 b1 b2 b3 : Byte) (rest after : List Byte) (i : Instr), s.instr_i = wordOfBytes b0 b1 b2 b3 →
      decodeBytes (b0 :: b1 :: b2 :: b3 :: rest) = .ok (i, after) → after = rest ∧ step s = exec i s) ∧
  (∀ (s : State) (i : Instr), decodeWord s.instr_i = i → step s = exec i s)

/-- A word of the opcode table placed by `withFetchWord` is the next instruction run, from every state (log 8); nothing but the input port changes. -/
def Obligations.FetchWordIsTheNextInstruction : Prop :=
  ∀ (s : State) (nbits w : Nat), ∃ i, decodeTableWord nbits w = some i ∧
    step (s.withFetchWord nbits w) = exec i (s.withFetchWord nbits w) ∧
    (s.withFetchWord nbits w).out = s.out ∧ (s.withFetchWord nbits w).params = s.params ∧
    (s.withFetchWord nbits w).instr_i.toNat = w % 2 ^ nbits % 2 ^ 32

/-- Decoding the word of a well-formed instruction gives it back, every row, every operand at every value. -/
def Obligations.DecodeOfEncodeIsTheInstruction : Prop :=
  ∀ i : Instr, i.wf = true → decodeWord (encode i) = i

/-- Every word is the encoding of exactly the instruction it decodes to, and that instruction is well formed: no bit of any word is lost, the four
low-bit variants and the reserved sub-encodings included (R42: every pattern of a known class is decoded; R58 (c)). -/
def Obligations.EncodeOfDecodeIsTheWord : Prop :=
  ∀ w : Word, (decodeWord w).wf = true ∧ encode (decodeWord w) = w

/-- Words written out from the spec's encodings (95_test_vectors.md) decode to the rows they stand for. -/
def Obligations.WrittenWordsDecodeToTheirRows : Prop :=
  decodeWord 0b00010010001101000101_00101_0110111 = .lui 5 0x12345 ∧
  decodeWord 0b1_1111111100_1_11111111_00001_1101111 = .jal 1 0x1FFFF8 ∧
  decodeWord 0b1_111111_00010_00001_000_1100_1_1100011 = .beq 1 2 0x1FF8 ∧
  decodeWord 0b1111111_00101_00110_010_11100_0100011 = .sw 6 5 0xFFC ∧
  decodeWord 0b000000001010_00000_000_00001_0010011 = .addi 1 0 0x00A ∧
  decodeWord 0b0100000_11111_00110_101_00101_0010011 = .srai 5 6 31 ∧
  decodeWord 0b0100000_00010_00001_000_00011_0110011 = .sub 3 1 2 ∧
  decodeWord 0b000011111111_00000_000_00000_0001111 = .fence 0 0 0x0FF ∧
  decodeWord 0b000000000001_00000_000_00000_1110011 = .ebreak ∧
  decodeWord 0b1111111_00000_00001_111_00000_0110011 = .classOp 3 0x7F 7 0 1 0 ∧
  decodeWord 0b0000000000000000000000000_11111_11 = .classUnknown1F 3 0

/-- The named rows with the least room, each as its mask and match (R100 to R103, R124 to R126, R137 to R139): a word matches if and only if it decodes
to the row. The labels are the spec's general knowledge (G3). -/
def Obligations.MaskAndMatchPickTheRow : Prop :=
  ∀ w : Word,
    (w &&& 0x7F = 0x37 ↔ ∃ rd imm, decodeWord w = .lui rd imm) ∧
    (w &&& 0x7F = 0x17 ↔ ∃ rd imm, decodeWord w = .auipc rd imm) ∧
    (w &&& 0x7F = 0x6F ↔ ∃ rd imm, decodeWord w = .jal rd imm) ∧
    (w &&& 0x707F = 0x67 ↔ ∃ rd rs1 imm, decodeWord w = .jalr rd rs1 imm) ∧
    (w &&& 0xFE00707F = 0x1013 ↔ ∃ rd rs1 sh, decodeWord w = .slli rd rs1 sh) ∧
    (w &&& 0xFE00707F = 0x5013 ↔ ∃ rd rs1 sh, decodeWord w = .srli rd rs1 sh) ∧
    (w &&& 0xFE00707F = 0x40005013 ↔ ∃ rd rs1 sh, decodeWord w = .srai rd rs1 sh) ∧
    (w &&& 0x707F = 0x0F ↔ ∃ rd rs1 imm, decodeWord w = .fence rd rs1 imm) ∧
    (w = 0x73 ↔ decodeWord w = .ecall) ∧
    (w = 0x100073 ↔ decodeWord w = .ebreak)

/-- The same for the rows told apart by funct3 or by funct3 and funct7 (R104 to R123, R127 to R136). -/
def Obligations.FunctFieldsPickTheRow : Prop :=
  ∀ w : Word,
    (w &&& 0x707F = 0x0063 ↔ ∃ a b c, decodeWord w = .beq a b c) ∧ (w &&& 0x707F = 0x1063 ↔ ∃ a b c, decodeWord w = .bne a b c) ∧
    (w &&& 0x707F = 0x4063 ↔ ∃ a b c, decodeWord w = .blt a b c) ∧ (w &&& 0x707F = 0x5063 ↔ ∃ a b c, decodeWord w = .bge a b c) ∧
    (w &&& 0x707F = 0x6063 ↔ ∃ a b c, decodeWord w = .bltu a b c) ∧ (w &&& 0x707F = 0x7063 ↔ ∃ a b c, decodeWord w = .bgeu a b c) ∧
    (w &&& 0x707F = 0x0003 ↔ ∃ a b c, decodeWord w = .lb a b c) ∧ (w &&& 0x707F = 0x1003 ↔ ∃ a b c, decodeWord w = .lh a b c) ∧
    (w &&& 0x707F = 0x2003 ↔ ∃ a b c, decodeWord w = .lw a b c) ∧ (w &&& 0x707F = 0x4003 ↔ ∃ a b c, decodeWord w = .lbu a b c) ∧
    (w &&& 0x707F = 0x5003 ↔ ∃ a b c, decodeWord w = .lhu a b c) ∧
    (w &&& 0x707F = 0x0023 ↔ ∃ a b c, decodeWord w = .sb a b c) ∧ (w &&& 0x707F = 0x1023 ↔ ∃ a b c, decodeWord w = .sh a b c) ∧
    (w &&& 0x707F = 0x2023 ↔ ∃ a b c, decodeWord w = .sw a b c) ∧
    (w &&& 0x707F = 0x0013 ↔ ∃ a b c, decodeWord w = .addi a b c) ∧ (w &&& 0x707F = 0x2013 ↔ ∃ a b c, decodeWord w = .slti a b c) ∧
    (w &&& 0x707F = 0x3013 ↔ ∃ a b c, decodeWord w = .sltiu a b c) ∧ (w &&& 0x707F = 0x4013 ↔ ∃ a b c, decodeWord w = .xori a b c) ∧
    (w &&& 0x707F = 0x6013 ↔ ∃ a b c, decodeWord w = .ori a b c) ∧ (w &&& 0x707F = 0x7013 ↔ ∃ a b c, decodeWord w = .andi a b c) ∧
    (w &&& 0xFE00707F = 0x00000033 ↔ ∃ a b c, decodeWord w = .add a b c) ∧ (w &&& 0xFE00707F = 0x40000033 ↔ ∃ a b c, decodeWord w = .sub a b c) ∧
    (w &&& 0xFE00707F = 0x00001033 ↔ ∃ a b c, decodeWord w = .sll a b c) ∧ (w &&& 0xFE00707F = 0x00002033 ↔ ∃ a b c, decodeWord w = .slt a b c) ∧
    (w &&& 0xFE00707F = 0x00003033 ↔ ∃ a b c, decodeWord w = .sltu a b c) ∧ (w &&& 0xFE00707F = 0x00004033 ↔ ∃ a b c, decodeWord w = .xor a b c) ∧
    (w &&& 0xFE00707F = 0x00005033 ↔ ∃ a b c, decodeWord w = .srl a b c) ∧ (w &&& 0xFE00707F = 0x40005033 ↔ ∃ a b c, decodeWord w = .sra a b c) ∧
    (w &&& 0xFE00707F = 0x00006033 ↔ ∃ a b c, decodeWord w = .or a b c) ∧ (w &&& 0xFE00707F = 0x00007033 ↔ ∃ a b c, decodeWord w = .and a b c)

/-! ### The block as a whole -/

/-- The machine, which goes through the row of each word, computes the block function of R87 for every word, under every parameter, whatever the
ports showed before, and changes nothing but its output ports (R10). -/
def Obligations.StepShowsBlockDecode : Prop :=
  ∀ s : State, step s = .next { s with out := portsOf s.instr_i (decode s.params.dispatchExtra s.instr_i.toNat) }

/-- The dispatch table on the machine: for each of its keys the operand list its decoder returns, and the error for every other value (R86, R87), with the
spec's four examples. -/
def Obligations.EachOpcodeValueShowsItsResult : Prop :=
  (∀ s : State, let w := s.instr_i;
    (Fields.opcode w = 0x00 → Claims.Shows s (.ok .I (Claims.listI w))) ∧
    (Fields.opcode w = 0x04 → Claims.Shows s (.ok .ISH (if Fields.funct3 w = 1 ∨ Fields.funct3 w = 5
        then [.reg (Fields.rd w), .reg (Fields.rs1 w), .shamt (Fields.rs2 w)] else Claims.listI w))) ∧
    (Fields.opcode w = 0x05 → Claims.Shows s (.ok .U [.reg (Fields.rd w), .imm (immU w)])) ∧
    (Fields.opcode w = 0x08 → Claims.Shows s (.ok .S [.reg (Fields.rs1 w), .reg (Fields.rs2 w), .imm (immS w)])) ∧
    (Fields.opcode w = 0x0C → Claims.Shows s (.ok .R [.reg (Fields.rd w), .reg (Fields.rs1 w), .reg (Fields.rs2 w)])) ∧
    (Fields.opcode w = 0x0D → Claims.Shows s (.ok .U [.reg (Fields.rd w), .imm (immU w)])) ∧
    (Fields.opcode w = 0x18 → Claims.Shows s (.ok .B [.reg (Fields.rs1 w), .reg (Fields.rs2 w), .imm (immB w)])) ∧
    (Fields.opcode w = 0x19 → Claims.Shows s (.ok .I (Claims.listI w))) ∧
    (Fields.opcode w = 0x1B → Claims.Shows s (.ok .J [.reg (Fields.rd w), .imm (immJ w)])) ∧
    (Fields.opcode w = 0x03 ∧ s.params.dispatchExtra.miscMem = true → Claims.Shows s (.ok .I (Claims.listI w))) ∧
    (Fields.opcode w = 0x1C ∧ s.params.dispatchExtra.system = true → Claims.Shows s (.ok .I (Claims.listI w))) ∧
    (¬ Claims.InK s.params.dispatchExtra (Fields.opcode w) → Claims.Shows s (.unknownOpcode (Fields.opcode w)))) ∧
  (∀ s : State, Claims.Shows (Claims.on s 0x00A00093) (.ok .ISH [.reg 1, .reg 0, .imm 10]) ∧
    Claims.Shows (Claims.on s 0xFF010113) (.ok .ISH [.reg 2, .reg 2, .imm (-16)]) ∧
    Claims.Shows (Claims.on s 0x00208463) (.ok .B [.reg 1, .reg 2, .imm 8]) ∧
    Claims.Shows (Claims.on s 0xFFFFFFFF) (.unknownOpcode 0x1F))

/-- The open keys (R88): with a key in `DISPATCH_EXTRA` its words go to `decode_i` with tag I, without it they are unknown; ECALL and EBREAK as examples, and
ECALL under the empty set. -/
def Obligations.OpenKeysFollowTheParameter : Prop :=
  (∀ s : State, Fields.opcode s.instr_i = 0x03 →
    Claims.Shows s (if s.params.dispatchExtra.miscMem = true then .ok .I (Claims.listI s.instr_i) else .unknownOpcode 0x03)) ∧
  (∀ s : State, Fields.opcode s.instr_i = 0x1C →
    Claims.Shows s (if s.params.dispatchExtra.system = true then .ok .I (Claims.listI s.instr_i) else .unknownOpcode 0x1C)) ∧
  (∀ s : State, s.params.dispatchExtra.system = true →
    Claims.Shows (Claims.on s 0x00000073) (.ok .I [.reg 0, .reg 0, .imm 0]) ∧ Claims.Shows (Claims.on s 0x00100073) (.ok .I [.reg 0, .reg 0, .imm 1])) ∧
  (∀ s : State, s.params.dispatchExtra = DispatchExtra.none → Claims.Shows (Claims.on s 0x00000073) (.unknownOpcode 0x1C))

/-- The verdict for all 32 opcode values (R89): `Ok` if and only if the key is in K, the error with that opcode otherwise; by default the 23 values
listed are rejected and no other; the `fence.i` example. -/
def Obligations.VerdictDependsOnTheKeySet : Prop :=
  (∀ (e : DispatchExtra) (x : Nat),
    ((∃ f a, decode e x = .ok f a) ↔ Claims.InK e (Fields.opcode (maskInput x))) ∧
    (¬ Claims.InK e (Fields.opcode (maskInput x)) → decode e x = .unknownOpcode (Fields.opcode (maskInput x)))) ∧
  (∀ op : BitVec 5, ¬ Claims.InK DispatchExtra.none op ↔ op ∈ [0x01, 0x02, 0x03, 0x06, 0x07, 0x09, 0x0A, 0x0B, 0x0E, 0x0F, 0x10, 0x11, 0x12, 0x13,
    0x14, 0x15, 0x16, 0x17, 0x1A, 0x1C, 0x1D, 0x1E, 0x1F]) ∧
  (∀ s : State, (∃ f a, Claims.Shows s (.ok f a)) ↔ Claims.InK s.params.dispatchExtra (Fields.opcode s.instr_i)) ∧
  decode DispatchExtra.none 0x0000100F = .unknownOpcode 0x03

/-- Input masking (R85): only the low 32 bits of what is offered take part, an over-wide value is no error, and a 32-bit value is unchanged. -/
def Obligations.OverWideInputIsMasked : Prop :=
  (∀ x : Nat, (maskInput x).toNat = x % 2 ^ 32) ∧
  (∀ x : Nat, x < 2 ^ 32 → (maskInput x).toNat = x) ∧
  (∀ (e : DispatchExtra) (x : Nat), decode e x = decode e (x % 2 ^ 32)) ∧
  (∀ (s : State) (x : Nat), step (s.present x) = step (s.present (x % 2 ^ 32))) ∧
  maskInput 0x100A00093 = 0x00A00093 ∧ (∀ e : DispatchExtra, decode e 0x100A00093 = decode e 0x00A00093)

/-- w[1:0] is not examined (R90): two words that differ only there drive every port alike; the four words of the spec's example. -/
def Obligations.LowBitsAreNotExamined : Prop :=
  (∀ (s : State) (v : Word), v >>> 2 = s.instr_i >>> 2 →
    ∃ t u, step s = .next t ∧ step (Claims.on s v) = .next u ∧ t.out = u.out) ∧
  (∀ s : State, Claims.Shows (Claims.on s 0x00A00090) (.ok .ISH [.reg 1, .reg 0, .imm 10]) ∧
    Claims.Shows (Claims.on s 0x00A00091) (.ok .ISH [.reg 1, .reg 0, .imm 10]) ∧
    Claims.Shows (Claims.on s 0x00A00092) (.ok .ISH [.reg 1, .reg 0, .imm 10]) ∧
    Claims.Shows (Claims.on s 0x00A00093) (.ok .ISH [.reg 1, .reg 0, .imm 10]))

/-- funct3 and funct7 are not validated (R91), and the argument list does not identify the operation (R168): whether a word is accepted depends on its opcode
field alone; in class OP neither field, in classes LOAD, STORE, BRANCH and JALR no value of funct3, changes the list. -/
def Obligations.FunctFieldsAreNotValidated : Prop :=
  (∀ (e : DispatchExtra) (v w : Word), Fields.opcode v = Fields.opcode w →
    ((∃ f a, dispatch e v = .ok f a) ↔ ∃ f a, dispatch e w = .ok f a)) ∧
  (∀ (e : DispatchExtra) (v w : Word), Fields.opcode v = 0x0C → v &&& 0x01FF8FFF = w &&& 0x01FF8FFF → dispatch e v = dispatch e w) ∧
  (∀ (e : DispatchExtra) (v w : Word), Fields.opcode v ∈ [0x00, 0x08, 0x18, 0x19] → v &&& 0xFFFF8FFF = w &&& 0xFFFF8FFF →
    dispatch e v = dispatch e w) ∧
  (∀ s : State, Claims.Shows (Claims.on s 0xFE00F033) (.ok .R [.reg 0, .reg 1, .reg 0]))

/-- The outputs are a function of the word and the parameters and of nothing else (R10, R24): what the ports showed before is never read, the name table
does not matter to them, and settling again changes nothing. -/
def Obligations.OutputsDependOnTheInputAlone : Prop :=
  (∀ s s' : State, s.instr_i = s'.instr_i → s.params.dispatchExtra = s'.params.dispatchExtra →
    ∃ t t', step s = .next t ∧ step s' = .next t' ∧ t.out = t'.out) ∧
  (∀ s t : State, step s = .next t → step t = .next t)

/-- Every state has a next state: the block "cannot fault or stall" (93_implementation_defined.md, Part 1) and raises nothing but its one result (R152). -/
def Obligations.EveryStepCompletes : Prop :=
  ∀ (i : Instr) (s : State), (∃ p, exec i s = .next { s with out := p }) ∧ ∃ p, step s = .next { s with out := p }

/-- What every step leaves, from any state: ports that agree with the input and have one of the shapes of R17, and the input and the parameters as they were. So
both properties are invariants, and the one agrees with R20 at every later time. -/
def Obligations.StepLeavesSettledLegalPorts : Prop :=
  ∀ s t : State, step s = .next t → t.Settled ∧ t.out.Legal ∧ t.instr_i = s.instr_i ∧ t.params = s.params

/-- The state after reset is settled and legal, and shows the word 0 accepted as class LOAD; its `DISPATCH_EXTRA` is the empty set. That the word at reset is 0
is the model's choice (log 3), and so is that reset takes the spec's default parameter (log 4). -/
def Obligations.ResetIsSettledAndLegal : Prop :=
  State.reset.Settled ∧ State.reset.out.Legal ∧ State.reset.Accepted ∧
  State.reset.out.result = some (.ok .I [.reg 0, .reg 0, .imm 0]) ∧
  State.reset.params.dispatchExtra = DispatchExtra.none

/-- One caller, one instance, any sequence of values (R19, R156): the results read are those of the block function, value by value, whatever the instance was
shown before and in whatever order. -/
def Obligations.StreamOfWordsIsDecodedWordByWord : Prop :=
  ∀ (xs : List Nat) (s : State), feed xs s = xs.map fun x => some (decode s.params.dispatchExtra x)

/-! ### The field extractor and the sign extender -/

/-- The eight accessors are exact masks (R50 to R57), with the relations among them and the spec's example word. -/
def Obligations.AccessorsAreExactMasks : Prop :=
  (∀ w : Word,
    (Fields.opcode w).toNat = (w.toNat >>> 2) &&& 0x1F ∧ (Fields.rd w).toNat = (w.toNat >>> 7) &&& 0x1F ∧
    (Fields.funct3 w).toNat = (w.toNat >>> 12) &&& 0x7 ∧ (Fields.rs1 w).toNat = (w.toNat >>> 15) &&& 0x1F ∧
    (Fields.rs2 w).toNat = (w.toNat >>> 20) &&& 0x1F ∧ (Fields.funct7 w).toNat = (w.toNat >>> 25) &&& 0x7F ∧
    (Fields.imm110 w).toNat = (w.toNat >>> 20) &&& 0xFFF ∧ (Fields.imm3112 w).toNat = (w.toNat >>> 12) &&& 0xFFFFF) ∧
  (∀ w : Word, Fields.opcode (w ^^^ 1) = Fields.opcode w ∧ Fields.opcode (w ^^^ 2) = Fields.opcode w ∧ Fields.opcode (w ^^^ 3) = Fields.opcode w ∧
    (Fields.rs2 w).toNat = (Fields.imm110 w).toNat &&& 0x1F ∧ (Fields.funct7 w).toNat = w.toNat >>> 25 ∧ (Fields.funct7 w).getLsbD 6 = w.getLsbD 31 ∧
    (Fields.imm110 w).toNat = (Fields.funct7 w).toNat <<< 5 ||| (Fields.rs2 w).toNat ∧ (w.getLsbD 31 = true → 2048 ≤ (Fields.imm110 w).toNat) ∧
    (Fields.imm3112 w).toNat = w.toNat >>> 12 ∧
    (Fields.imm3112 w).toNat = (Fields.imm110 w).toNat <<< 8 ||| (Fields.rs1 w).toNat <<< 3 ||| (Fields.funct3 w).toNat) ∧
  (Fields.opcode 0xFF010113 = 0x04 ∧ Fields.rd 0xFF010113 = 2 ∧ Fields.funct3 0xFF010113 = 0 ∧ Fields.rs1 0xFF010113 = 2 ∧
    Fields.rs2 0xFF010113 = 16 ∧ Fields.funct7 0xFF010113 = 0x7F ∧ Fields.imm110 0xFF010113 = 0xFF0 ∧ Fields.imm3112 0xFF010113 = 0xFF010)

/-- An accessor depends on its own bits alone, bit by bit, and the fields make up the word (R58 (b), (c)). -/
def Obligations.FlippingAWordBitFlipsOneFieldBit : Prop :=
  (∀ (w : Word) (k : Nat), k < 32 →
    let v := w ^^^ BitVec.twoPow 32 k;
    (Fields.opcode v = if 2 ≤ k ∧ k ≤ 6 then Fields.opcode w ^^^ BitVec.twoPow 5 (k - 2) else Fields.opcode w) ∧
    (Fields.rd v = if 7 ≤ k ∧ k ≤ 11 then Fields.rd w ^^^ BitVec.twoPow 5 (k - 7) else Fields.rd w) ∧
    (Fields.funct3 v = if 12 ≤ k ∧ k ≤ 14 then Fields.funct3 w ^^^ BitVec.twoPow 3 (k - 12) else Fields.funct3 w) ∧
    (Fields.rs1 v = if 15 ≤ k ∧ k ≤ 19 then Fields.rs1 w ^^^ BitVec.twoPow 5 (k - 15) else Fields.rs1 w) ∧
    (Fields.rs2 v = if 20 ≤ k ∧ k ≤ 24 then Fields.rs2 w ^^^ BitVec.twoPow 5 (k - 20) else Fields.rs2 w) ∧
    (Fields.funct7 v = if 25 ≤ k then Fields.funct7 w ^^^ BitVec.twoPow 7 (k - 25) else Fields.funct7 w) ∧
    (Fields.imm110 v = if 20 ≤ k then Fields.imm110 w ^^^ BitVec.twoPow 12 (k - 20) else Fields.imm110 w) ∧
    (Fields.imm3112 v = if 12 ≤ k then Fields.imm3112 w ^^^ BitVec.twoPow 20 (k - 12) else Fields.imm3112 w)) ∧
  (∀ w : Word, w.toNat = (Fields.funct7 w).toNat <<< 25 ||| (Fields.rs2 w).toNat <<< 20 ||| (Fields.rs1 w).toNat <<< 15 |||
    (Fields.funct3 w).toNat <<< 12 ||| (Fields.rd w).toNat <<< 7 ||| (Fields.opcode w).toNat <<< 2 ||| (w.toNat &&& 3))

/-- `sign_extend` (R60): the two's-complement value of the low bits, its range, its corner cases and its example. The domain is width 1 and more. -/
def Obligations.SignExtendIsTwosComplement : Prop :=
  (∀ (v n : Nat), 1 ≤ n →
    signExtend v n = (if v % 2 ^ n < 2 ^ (n - 1) then ((v % 2 ^ n : Nat) : Int) else ((v % 2 ^ n : Nat) : Int) - 2 ^ n) ∧
    -2 ^ (n - 1) ≤ signExtend v n ∧ signExtend v n ≤ 2 ^ (n - 1) - 1) ∧
  (∀ n : Nat, 1 ≤ n → signExtend 0 n = 0 ∧ signExtend (2 ^ (n - 1)) n = -2 ^ (n - 1) ∧ signExtend (2 ^ (n - 1) - 1) n = 2 ^ (n - 1) - 1 ∧
    signExtend (2 ^ n - 1) n = -1) ∧
  signExtend 0xFF0 12 = -16

/-- High bits are ignored (R61). -/
def Obligations.SignExtendIgnoresHighBits : Prop :=
  (∀ (v n : Nat), 1 ≤ n → signExtend v n = signExtend (v &&& (2 ^ n - 1)) n) ∧ signExtend 0x1FF0 12 = -16

/-- `sign_extend` round-trips both ways, and on a 32-bit port it copies the sign bit upward (R62). -/
def Obligations.SignExtendRoundTrips : Prop :=
  (∀ (v n : Nat), 1 ≤ n → v < 2 ^ n → signExtend v n % 2 ^ n = v) ∧
  (∀ (n : Nat) (z : Int), 1 ≤ n → -2 ^ (n - 1) ≤ z → z ≤ 2 ^ (n - 1) - 1 → signExtend (z % 2 ^ n).toNat n = z) ∧
  (∀ (v n k : Nat), 1 ≤ n → n ≤ 32 → v < 2 ^ n → n - 1 ≤ k → k < 32 → (BitVec.ofInt 32 (signExtend v n)).getLsbD k = v.testBit (n - 1)) ∧
  (-16 : Int) % 4096 = 0xFF0 ∧ BitVec.ofInt 32 (-16) = 0xFFFFFFF0

/-! ### The immediates -/

/-- The I-, S- and U-immediates (R65, R66, R68): formula, range with every value reached, the bits read, the corner cases, the examples. -/
def Obligations.ImmediatesISU : Prop :=
  (∀ w : Word, immI w = signExtend (Fields.imm110 w).toNat 12 ∧ -2048 ≤ immI w ∧ immI w ≤ 2047 ∧
    (Fields.imm110 w = 0x000 → immI w = 0) ∧ (Fields.imm110 w = 0x7FF → immI w = 2047) ∧
    (Fields.imm110 w = 0x800 → immI w = -2048) ∧ (Fields.imm110 w = 0xFFF → immI w = -1)) ∧
  (∀ v w : Word, v &&& 0xFFF00000 = w &&& 0xFFF00000 → immI v = immI w) ∧ (∀ z : Int, -2048 ≤ z → z ≤ 2047 → ∃ w, immI w = z) ∧
  immI 0x00A00093 = 10 ∧ immI 0xFF010113 = -16 ∧
  (∀ w : Word, immS w = signExtend ((Fields.funct7 w).toNat <<< 5 ||| (Fields.rd w).toNat) 12 ∧ -2048 ≤ immS w ∧ immS w ≤ 2047 ∧
    (Fields.funct7 w = 0x40 ∧ Fields.rd w = 0 → immS w = -2048) ∧ (Fields.funct7 w = 0x3F ∧ Fields.rd w = 31 → immS w = 2047) ∧
    (Fields.funct7 w = 0x7F ∧ Fields.rd w = 31 → immS w = -1) ∧ (Fields.funct7 w = 0 ∧ Fields.rd w = 31 → immS w = 31) ∧
    (Fields.funct7 w = 1 ∧ Fields.rd w = 0 → immS w = 32)) ∧
  (∀ v w : Word, v &&& 0xFE000F80 = w &&& 0xFE000F80 → immS v = immS w) ∧ (∀ z : Int, -2048 ≤ z → z ≤ 2047 → ∃ w, immS w = z) ∧
  immS 0xFE532E23 = -4 ∧
  (∀ w : Word, immU w = signExtend (Fields.imm3112 w).toNat 20 ∧ -524288 ≤ immU w ∧ immU w ≤ 524287 ∧ (w.getLsbD 31 = true → immU w < 0) ∧
    (Fields.imm3112 w = 0x80000 → immU w = -524288) ∧ (Fields.imm3112 w = 0xFFFFF → immU w = -1)) ∧
  (∀ v w : Word, v &&& 0xFFFFF000 = w &&& 0xFFFFF000 → immU v = immU w) ∧ (∀ z : Int, -524288 ≤ z → z ≤ 524287 → ∃ w, immU w = z) ∧
  immU 0x123452B7 = 74565 ∧ immU 0xDEADB2B7 = -136485

/-- The B-immediate (R67): the spec's shift chain, range with every even value reached, the bits read, the corner cases, the examples. -/
def Obligations.ImmediateB : Prop :=
  (∀ w : Word,
    immB w = signExtend (((Fields.rd w).toNat &&& 0x1E) ||| (((Fields.funct7 w).toNat &&& 0x3F) <<< 5) ||| (((Fields.rd w).toNat &&& 0x01) <<< 11) |||
      (((Fields.funct7 w).toNat >>> 6) <<< 12)) 13 ∧
    immB w % 2 = 0 ∧ -4096 ≤ immB w ∧ immB w ≤ 4094 ∧
    (w &&& 0xFE000F80 = 0x80000000 → immB w = -4096) ∧ (w &&& 0xFE000F80 = 0x00000080 → immB w = 2048) ∧
    (w &&& 0xFE000F80 = 0x00000100 → immB w = 2) ∧ (w &&& 0xFE000F80 = 0x02000000 → immB w = 32) ∧ (w &&& 0xFE000F80 = 0 → immB w = 0)) ∧
  (∀ v w : Word, v &&& 0xFE000F80 = w &&& 0xFE000F80 → immB v = immB w) ∧
  (∀ z : Int, -4096 ≤ z → z ≤ 4094 → z % 2 = 0 → ∃ w, immB w = z) ∧
  immB 0x00208463 = 8 ∧ immB 0xFE208CE3 = -8

/-- The J-immediate (R69): the spec's shift chain, range with every even value reached, the bits read, the corner cases, the examples. The map is the
spec's general knowledge (G1). -/
def Obligations.ImmediateJ : Prop :=
  (∀ w : Word,
    immJ w = signExtend (((((Fields.imm3112 w).toNat >>> 9) &&& 0x3FF) <<< 1) ||| ((((Fields.imm3112 w).toNat >>> 8) &&& 0x001) <<< 11) |||
      (((Fields.imm3112 w).toNat &&& 0xFF) <<< 12) ||| ((((Fields.imm3112 w).toNat >>> 19) &&& 0x001) <<< 20)) 21 ∧
    immJ w % 2 = 0 ∧ -1048576 ≤ immJ w ∧ immJ w ≤ 1048574 ∧
    (w &&& 0xFFFFF000 = 0x80000000 → immJ w = -1048576) ∧ (w &&& 0xFFFFF000 = 0x00200000 → immJ w = 2) ∧
    (w &&& 0xFFFFF000 = 0x00100000 → immJ w = 2048) ∧ (w &&& 0xFFFFF000 = 0x00001000 → immJ w = 4096) ∧
    (w &&& 0xFFFFF000 = 0x00080000 → immJ w = 524288)) ∧
  (∀ v w : Word, v &&& 0xFFFFF000 = w &&& 0xFFFFF000 → immJ v = immJ w) ∧
  (∀ z : Int, -1048576 ≤ z → z ≤ 1048574 → z % 2 = 0 → ∃ w, immJ w = z) ∧
  immJ 0x008000EF = 8 ∧ immJ 0xFF9FF0EF = -8

/-- The bit map of R39, as the list of (immediate bit, word bit) runs of each format, with bit 0 of B and J constant, and every bit above the top one on the
32-bit port equal to w[31]. -/
def Obligations.ImmediateBitMap : Prop :=
  ∀ (w : Word) (k : Nat),
    (k ≤ 11 → (BitVec.ofInt 32 (immI w)).getLsbD k = w.getLsbD (k + 20)) ∧
    (k ≤ 4 → (BitVec.ofInt 32 (immS w)).getLsbD k = w.getLsbD (k + 7)) ∧
    (5 ≤ k ∧ k ≤ 11 → (BitVec.ofInt 32 (immS w)).getLsbD k = w.getLsbD (k + 20)) ∧
    (12 ≤ k ∧ k < 32 → (BitVec.ofInt 32 (immI w)).getLsbD k = w.getLsbD 31 ∧ (BitVec.ofInt 32 (immS w)).getLsbD k = w.getLsbD 31) ∧
    (BitVec.ofInt 32 (immB w)).getLsbD 0 = false ∧
    (1 ≤ k ∧ k ≤ 4 → (BitVec.ofInt 32 (immB w)).getLsbD k = w.getLsbD (k + 7)) ∧
    (5 ≤ k ∧ k ≤ 10 → (BitVec.ofInt 32 (immB w)).getLsbD k = w.getLsbD (k + 20)) ∧
    (BitVec.ofInt 32 (immB w)).getLsbD 11 = w.getLsbD 7 ∧
    (12 ≤ k ∧ k < 32 → (BitVec.ofInt 32 (immB w)).getLsbD k = w.getLsbD 31) ∧
    (k ≤ 19 → (BitVec.ofInt 32 (immU w)).getLsbD k = w.getLsbD (k + 12)) ∧
    (20 ≤ k ∧ k < 32 → (BitVec.ofInt 32 (immU w)).getLsbD k = w.getLsbD 31) ∧
    (BitVec.ofInt 32 (immJ w)).getLsbD 0 = false ∧
    (1 ≤ k ∧ k ≤ 10 → (BitVec.ofInt 32 (immJ w)).getLsbD k = w.getLsbD (k + 20)) ∧
    (BitVec.ofInt 32 (immJ w)).getLsbD 11 = w.getLsbD 20 ∧
    (12 ≤ k ∧ k ≤ 19 → (BitVec.ofInt 32 (immJ w)).getLsbD k = w.getLsbD k) ∧
    (20 ≤ k ∧ k < 32 → (BitVec.ofInt 32 (immJ w)).getLsbD k = w.getLsbD 31)

/-- In all five formats the immediate is negative exactly when w[31] is 1, and determines the word bits it was read from (R71 (a), (c)); the U-immediate of any
word, shifted left by 12 on 32 bits, is those bits in place (the clause that R68 marks as derived). -/
def Obligations.ImmediateSignAndInjectivity : Prop :=
  (∀ w : Word, (immI w < 0 ↔ w.getLsbD 31 = true) ∧ (immS w < 0 ↔ w.getLsbD 31 = true) ∧ (immB w < 0 ↔ w.getLsbD 31 = true) ∧
    (immU w < 0 ↔ w.getLsbD 31 = true) ∧ (immJ w < 0 ↔ w.getLsbD 31 = true)) ∧
  (∀ v w : Word, (immI v = immI w → v &&& 0xFFF00000 = w &&& 0xFFF00000) ∧ (immS v = immS w → v &&& 0xFE000F80 = w &&& 0xFE000F80) ∧
    (immB v = immB w → v &&& 0xFE000F80 = w &&& 0xFE000F80) ∧ (immU v = immU w → v &&& 0xFFFFF000 = w &&& 0xFFFFF000) ∧
    (immJ v = immJ w → v &&& 0xFFFFF000 = w &&& 0xFFFFF000)) ∧
  (∀ w : Word, BitVec.ofInt 32 (immU w) <<< 12 = w &&& 0xFFFFF000)

/-! ### The format decoders -/

/-- The seven format decoders (R75 to R81) on the four words of 95_test_vectors.md section 6, each decoder on each word whatever the word's opcode. -/
def Obligations.FormatDecodersOnTheFourSpecWords : Prop :=
  [decodeR 0x00A00093, decodeI 0x00A00093, decodeIShamt 0x00A00093, decodeS 0x00A00093, decodeB 0x00A00093, decodeU 0x00A00093, decodeJ 0x00A00093] =
    [[.reg 1, .reg 0, .reg 10], [.reg 1, .reg 0, .imm 10], [.reg 1, .reg 0, .imm 10], [.reg 0, .reg 10, .imm 1], [.reg 0, .reg 10, .imm 2048],
     [.reg 1, .imm 2560], [.reg 1, .imm 10]] ∧
  [decodeR 0xFF010113, decodeI 0xFF010113, decodeIShamt 0xFF010113, decodeS 0xFF010113, decodeB 0xFF010113, decodeU 0xFF010113, decodeJ 0xFF010113] =
    [[.reg 2, .reg 2, .reg 16], [.reg 2, .reg 2, .imm (-16)], [.reg 2, .reg 2, .imm (-16)], [.reg 2, .reg 16, .imm (-30)],
     [.reg 2, .reg 16, .imm (-2078)], [.reg 2, .imm (-4080)], [.reg 2, .imm (-981008)]] ∧
  [decodeR 0xFFF31293, decodeI 0xFFF31293, decodeIShamt 0xFFF31293, decodeS 0xFFF31293, decodeB 0xFFF31293, decodeU 0xFFF31293, decodeJ 0xFFF31293] =
    [[.reg 5, .reg 6, .reg 31], [.reg 5, .reg 6, .imm (-1)], [.reg 5, .reg 6, .shamt 31], [.reg 6, .reg 31, .imm (-27)],
     [.reg 6, .reg 31, .imm (-28)], [.reg 5, .imm (-207)], [.reg 5, .imm (-843778)]] ∧
  [decodeR 0xDEADBEEF, decodeI 0xDEADBEEF, decodeIShamt 0xDEADBEEF, decodeS 0xDEADBEEF, decodeB 0xDEADBEEF, decodeU 0xDEADBEEF, decodeJ 0xDEADBEEF] =
    [[.reg 29, .reg 27, .reg 10], [.reg 29, .reg 27, .imm (-534)], [.reg 29, .reg 27, .imm (-534)], [.reg 27, .reg 10, .imm (-515)],
     [.reg 27, .reg 10, .imm (-516)], [.reg 29, .imm (-136485)], [.reg 29, .imm (-150038)]]

/-- The shift-immediate variant on any word (R77) and on the machine: in class OP-IMM the third operand is a shift amount exactly for funct3 1 and 5; it is the raw rs2
field, below 32, the same whatever bits [31:25] hold; for every other funct3 it is the signed immediate. The tag is ISH in both cases. -/
def Obligations.ShiftAmountIsTheRawRs2Field : Prop :=
  (∀ w : Word, (Fields.funct3 w = 1 ∨ Fields.funct3 w = 5 → decodeIShamt w = [.reg (Fields.rd w), .reg (Fields.rs1 w), .shamt (Fields.rs2 w)]) ∧
    (Fields.funct3 w ≠ 1 → Fields.funct3 w ≠ 5 → decodeIShamt w = decodeI w)) ∧
  (∀ s : State, Fields.opcode s.instr_i = 0x04 → ∃ t, step s = .next t ∧ t.out.fmt_o = 2 ∧ t.out.nargs_o = 3 ∧
    (t.out.arg2_kind_o = 3 ↔ Fields.funct3 s.instr_i = 1 ∨ Fields.funct3 s.instr_i = 5) ∧
    (t.out.arg2_kind_o = 3 → t.out.arg2_val_o.toNat = (s.instr_i.toNat >>> 20) &&& 0x1F) ∧
    (t.out.arg2_kind_o ≠ 3 → t.out.arg2_kind_o = 2 ∧ t.out.arg2_val_o = BitVec.ofInt 32 (immI s.instr_i))) ∧
  (∀ (s : State) (v : Word), Fields.opcode s.instr_i = 0x04 → (Fields.funct3 s.instr_i = 1 ∨ Fields.funct3 s.instr_i = 5) →
    v &&& 0x01FFFFFF = s.instr_i &&& 0x01FFFFFF → ∃ t u, step s = .next t ∧ step (Claims.on s v) = .next u ∧ t.out.result = u.out.result) ∧
  (∀ s : State, Claims.Shows (Claims.on s 0xFE359513) (.ok .ISH [.reg 10, .reg 11, .shamt 3]) ∧
    Claims.Shows (Claims.on s 0xFE358513) (.ok .ISH [.reg 10, .reg 11, .imm (-29)]) ∧
    Claims.Shows (Claims.on s 0x00331293) (.ok .ISH [.reg 5, .reg 6, .shamt 3]) ∧
    Claims.Shows (Claims.on s 0x41F35293) (.ok .ISH [.reg 5, .reg 6, .shamt 31]) ∧
    Claims.Shows (Claims.on s 0x01F35293) (.ok .ISH [.reg 5, .reg 6, .shamt 31]) ∧
    Claims.Shows (Claims.on s 0xFF010113) (.ok .ISH [.reg 2, .reg 2, .imm (-16)]))

/-! ### The ports -/

/-- Operands and results on the ports (R14, R17): for every word, the tag, the count, the kinds and the values of its row of R17's table, the row of the
error included. -/
def Obligations.ResultOnThePorts : Prop :=
  ∀ s : State, let w := s.instr_i;
    ∃ t, step s = .next t ∧
    (Claims.InK s.params.dispatchExtra (Fields.opcode w) → t.out.err_o = 0) ∧
    (¬ Claims.InK s.params.dispatchExtra (Fields.opcode w) → t.out.err_o = 1 ∧ t.out.fmt_o = 7 ∧ t.out.nargs_o = 0 ∧
      t.out.arg0_kind_o = 0 ∧ t.out.arg1_kind_o = 0 ∧ t.out.arg2_kind_o = 0 ∧ t.out.arg0_val_o = 0 ∧ t.out.arg1_val_o = 0 ∧ t.out.arg2_val_o = 0) ∧
    (Fields.opcode w = 0x0C → t.out.fmt_o = 0 ∧ t.out.nargs_o = 3 ∧ t.out.arg0_kind_o = 1 ∧ t.out.arg1_kind_o = 1 ∧ t.out.arg2_kind_o = 1 ∧
      t.out.arg0_val_o = (Fields.rd w).setWidth 32 ∧ t.out.arg1_val_o = (Fields.rs1 w).setWidth 32 ∧ t.out.arg2_val_o = (Fields.rs2 w).setWidth 32) ∧
    (Fields.opcode w = 0x00 ∨ Fields.opcode w = 0x19 ∨ (Fields.opcode w = 0x03 ∧ s.params.dispatchExtra.miscMem = true) ∨
        (Fields.opcode w = 0x1C ∧ s.params.dispatchExtra.system = true) →
      t.out.fmt_o = 1 ∧ t.out.nargs_o = 3 ∧ t.out.arg0_kind_o = 1 ∧ t.out.arg1_kind_o = 1 ∧ t.out.arg2_kind_o = 2 ∧
      t.out.arg0_val_o = (Fields.rd w).setWidth 32 ∧ t.out.arg1_val_o = (Fields.rs1 w).setWidth 32 ∧ t.out.arg2_val_o = BitVec.ofInt 32 (immI w)) ∧
    (Fields.opcode w = 0x04 →
      t.out.fmt_o = 2 ∧ t.out.nargs_o = 3 ∧ t.out.arg0_kind_o = 1 ∧ t.out.arg1_kind_o = 1 ∧
      t.out.arg0_val_o = (Fields.rd w).setWidth 32 ∧ t.out.arg1_val_o = (Fields.rs1 w).setWidth 32 ∧
      (if Fields.funct3 w = 1 ∨ Fields.funct3 w = 5 then t.out.arg2_kind_o = 3 ∧ t.out.arg2_val_o = (Fields.rs2 w).setWidth 32
       else t.out.arg2_kind_o = 2 ∧ t.out.arg2_val_o = BitVec.ofInt 32 (immI w))) ∧
    (Fields.opcode w = 0x08 → t.out.fmt_o = 3 ∧ t.out.nargs_o = 3 ∧ t.out.arg0_kind_o = 1 ∧ t.out.arg1_kind_o = 1 ∧ t.out.arg2_kind_o = 2 ∧
      t.out.arg0_val_o = (Fields.rs1 w).setWidth 32 ∧ t.out.arg1_val_o = (Fields.rs2 w).setWidth 32 ∧ t.out.arg2_val_o = BitVec.ofInt 32 (immS w)) ∧
    (Fields.opcode w = 0x18 → t.out.fmt_o = 4 ∧ t.out.nargs_o = 3 ∧ t.out.arg0_kind_o = 1 ∧ t.out.arg1_kind_o = 1 ∧ t.out.arg2_kind_o = 2 ∧
      t.out.arg0_val_o = (Fields.rs1 w).setWidth 32 ∧ t.out.arg1_val_o = (Fields.rs2 w).setWidth 32 ∧ t.out.arg2_val_o = BitVec.ofInt 32 (immB w)) ∧
    (Fields.opcode w = 0x05 ∨ Fields.opcode w = 0x0D →
      t.out.fmt_o = 5 ∧ t.out.nargs_o = 2 ∧ t.out.arg0_kind_o = 1 ∧ t.out.arg1_kind_o = 2 ∧ t.out.arg2_kind_o = 0 ∧
      t.out.arg0_val_o = (Fields.rd w).setWidth 32 ∧ t.out.arg1_val_o = BitVec.ofInt 32 (immU w) ∧ t.out.arg2_val_o = 0) ∧
    (Fields.opcode w = 0x1B → t.out.fmt_o = 6 ∧ t.out.nargs_o = 2 ∧ t.out.arg0_kind_o = 1 ∧ t.out.arg1_kind_o = 2 ∧ t.out.arg2_kind_o = 0 ∧
      t.out.arg0_val_o = (Fields.rd w).setWidth 32 ∧ t.out.arg1_val_o = BitVec.ofInt 32 (immJ w) ∧ t.out.arg2_val_o = 0)

/-- Reading the ports back gives exactly the result of the block function: the port encoding loses nothing, the unbounded immediate included (R8, R14, R17,
R175). -/
def Obligations.PortsReadBackAsTheResult : Prop :=
  ∀ s t : State, step s = .next t → t.out.result = some (decode s.params.dispatchExtra s.instr_i.toNat)

/-- The error (R150): raised exactly when the opcode has no entry; on the ports err_o = 1, fmt_o = 7, nargs_o = 0, kinds none, values 0, the opcode on its
tap and all taps valid; never an operand list. -/
def Obligations.UnknownOpcodeOnThePorts : Prop :=
  (∀ s : State, ∃ t, step s = .next t ∧ (t.out.err_o = 1 ↔ ¬ Claims.InK s.params.dispatchExtra (Fields.opcode s.instr_i)) ∧
    (t.out.err_o = 1 → t.out.fmt_o = 7 ∧ t.out.nargs_o = 0 ∧ t.out.arg0_kind_o = 0 ∧ t.out.arg1_kind_o = 0 ∧ t.out.arg2_kind_o = 0 ∧
      t.out.arg0_val_o = 0 ∧ t.out.arg1_val_o = 0 ∧ t.out.arg2_val_o = 0 ∧ t.out.opcode_o = Fields.opcode s.instr_i ∧
      t.out.result = some (.unknownOpcode (Fields.opcode s.instr_i))) ∧
    Claims.TapsOf t.out s.instr_i) ∧
  (∀ s : State, Claims.Shows (Claims.on s 0xFFFFFFFF) (.unknownOpcode 0x1F)) ∧
  (∀ s : State, s.params.dispatchExtra = DispatchExtra.none → Claims.Shows (Claims.on s 0x00000073) (.unknownOpcode 0x1C))

/-- The error is precise and recoverable (R155, R156): it changes neither the input nor the parameters, the same word gives the same error again, and the next
decode of any value is what it would have been had the failed one never happened. -/
def Obligations.RejectedWordLeavesNoTrace : Prop :=
  ∀ s t : State, step s = .next t → t.Rejected →
    t.instr_i = s.instr_i ∧ t.params = s.params ∧ step t = .next t ∧
    ∀ x : Nat, ∃ u, step (t.present x) = .next u ∧ step (s.present x) = .next u

/-- The named view (R15): each register operand through the instance's own table, immediates and shift amounts as integers, no view of an error; for every table, with
the spec's examples under the default one. -/
def Obligations.NamedViewUsesTheNameTable : Prop :=
  (∀ (names : RegNames) (i : RegIdx) (z : Int) (n : BitVec 5), Operand.named names (.reg i) = .name (names.get i.toFin) ∧
    Operand.named names (.imm z) = .int z ∧ Operand.named names (.shamt n) = .int n.toNat) ∧
  (∀ s t : State, step s = .next t → t.namedView = match decode s.params.dispatchExtra s.instr_i.toNat with
    | .ok _ args => some (args.map (Operand.named s.params.regname))
    | .unknownOpcode _ => none) ∧
  (∀ i : Fin 32, RegNames.default.get i = "x" ++ toString i.val) ∧
  (∀ s : State, s.params.regname = RegNames.default →
    (∃ t, step (Claims.on s 0x00A00093) = .next t ∧ t.namedView = some [.name "x1", .name "x0", .int 10]) ∧
    (∃ t, step (Claims.on s 0xFF010113) = .next t ∧ t.namedView = some [.name "x2", .name "x2", .int (-16)]) ∧
    (∃ t, step (Claims.on s 0x41FFDFB3) = .next t ∧ t.namedView = some [.name "x31", .name "x31", .name "x31"]))

/-- `word_of_bytes` (R22), with its example. -/
def Obligations.WordOfBytesIsLittleEndian : Prop :=
  (∀ b0 b1 b2 b3 : Byte, (wordOfBytes b0 b1 b2 b3).toNat = b0.toNat ||| b1.toNat <<< 8 ||| b2.toNat <<< 16 ||| b3.toNat <<< 24) ∧
  wordOfBytes 0x93 0x00 0xA0 0x00 = 0x00A00093

/-! ### The instructions, through the decoder (R100 to R139) -/

/-- LUI, AUIPC, JAL, JALR (R100 to R103): every word that matches the row, in every state; the JALR class for every funct3; the ranges of the
U- and J-immediates; the examples. -/
def Obligations.UpperAndJumpWords : Prop :=
  (∀ s : State, s.instr_i &&& 0x7F = 0x37 → Claims.Shows s (.ok .U [.reg (Fields.rd s.instr_i), .imm (immU s.instr_i)])) ∧
  (∀ s : State, s.instr_i &&& 0x7F = 0x17 → Claims.Shows s (.ok .U [.reg (Fields.rd s.instr_i), .imm (immU s.instr_i)])) ∧
  (∀ s : State, s.instr_i &&& 0x7F = 0x6F → Claims.Shows s (.ok .J [.reg (Fields.rd s.instr_i), .imm (immJ s.instr_i)])) ∧
  (∀ s : State, s.instr_i &&& 0x707F = 0x67 → Claims.Shows s (.ok .I (Claims.listI s.instr_i))) ∧
  (∀ s : State, s.instr_i &&& 0x7F = 0x67 → Claims.Shows s (.ok .I (Claims.listI s.instr_i))) ∧
  (∀ w : Word, -524288 ≤ immU w ∧ immU w ≤ 524287 ∧ (0x80000 ≤ w.toNat >>> 12 → immU w < 0)) ∧
  (∀ w : Word, immJ w % 2 = 0 ∧ -1048576 ≤ immJ w ∧ immJ w ≤ 1048574) ∧
  (∀ s : State, Claims.Shows (Claims.on s 0x123452B7) (.ok .U [.reg 5, .imm 74565]) ∧
    Claims.Shows (Claims.on s 0xFFFFF297) (.ok .U [.reg 5, .imm (-1)]) ∧
    Claims.Shows (Claims.on s 0xFF9FF0EF) (.ok .J [.reg 1, .imm (-8)]) ∧
    Claims.Shows (Claims.on s 0xFFC280E7) (.ok .I [.reg 1, .reg 5, .imm (-4)]))

/-- A LUI or AUIPC word shows its immediate unshifted; shifting what the port shows gives w & 0xFFFFF000 (R167). -/
def Obligations.UpperImmediateIsNotShifted : Prop :=
  (∀ s : State, Fields.opcode s.instr_i = 0x0D ∨ Fields.opcode s.instr_i = 0x05 →
    ∃ t, step s = .next t ∧ t.out.arg1_kind_o = 2 ∧ t.out.arg1_val_o = (Fields.imm3112 s.instr_i).signExtend 32 ∧
      t.out.arg1_val_o <<< 12 = s.instr_i &&& 0xFFFFF000) ∧
  (∀ s : State, Claims.Shows (Claims.on s 0xFFFFF2B7) (.ok .U [.reg 5, .imm (-1)])) ∧
  (BitVec.ofInt 32 (-1) <<< 12 : BitVec 32) = 0xFFFFF000

/-- The six branches (R104 to R109): every word that matches a row, and every word of the class, reserved funct3 2 and 3 included; the examples. -/
def Obligations.BranchWords : Prop :=
  (∀ s : State, ∀ m ∈ [0x0063, 0x1063, 0x4063, 0x5063, 0x6063, 0x7063], s.instr_i &&& 0x707F = m →
    Claims.Shows s (.ok .B [.reg (Fields.rs1 s.instr_i), .reg (Fields.rs2 s.instr_i), .imm (immB s.instr_i)])) ∧
  (∀ s : State, s.instr_i &&& 0x7F = 0x63 →
    Claims.Shows s (.ok .B [.reg (Fields.rs1 s.instr_i), .reg (Fields.rs2 s.instr_i), .imm (immB s.instr_i)])) ∧
  (∀ w : Word, immB w % 2 = 0 ∧ -4096 ≤ immB w ∧ immB w ≤ 4094 ∧ (w &&& 0xFE000F80 = 0 → immB w = 0)) ∧
  (∀ s : State, Claims.Shows (Claims.on s 0x00208463) (.ok .B [.reg 1, .reg 2, .imm 8]) ∧
    Claims.Shows (Claims.on s 0xFE209CE3) (.ok .B [.reg 1, .reg 2, .imm (-8)]) ∧
    Claims.Shows (Claims.on s 0x0020C863) (.ok .B [.reg 1, .reg 2, .imm 16]) ∧
    Claims.Shows (Claims.on s 0xFE20D8E3) (.ok .B [.reg 1, .reg 2, .imm (-16)]) ∧
    Claims.Shows (Claims.on s 0x7E20EFE3) (.ok .B [.reg 1, .reg 2, .imm 4094]) ∧
    Claims.Shows (Claims.on s 0x8020F063) (.ok .B [.reg 1, .reg 2, .imm (-4096)]))

/-- The five loads (R110 to R114): every word that matches a row, and every word of the class, funct3 3, 6 and 7 included; the full immediate even for funct3 1 and
5; the examples. -/
def Obligations.LoadWords : Prop :=
  (∀ s : State, ∀ m ∈ [0x0003, 0x1003, 0x2003, 0x4003, 0x5003], s.instr_i &&& 0x707F = m → Claims.Shows s (.ok .I (Claims.listI s.instr_i))) ∧
  (∀ s : State, s.instr_i &&& 0x7F = 0x03 → Claims.Shows s (.ok .I (Claims.listI s.instr_i))) ∧
  (∀ s : State, Claims.Shows (Claims.on s 0x00030283) (.ok .I [.reg 5, .reg 6, .imm 0]) ∧
    Claims.Shows (Claims.on s 0xFFE31283) (.ok .I [.reg 5, .reg 6, .imm (-2)]) ∧
    Claims.Shows (Claims.on s 0x00432283) (.ok .I [.reg 5, .reg 6, .imm 4]) ∧
    Claims.Shows (Claims.on s 0x7FF34283) (.ok .I [.reg 5, .reg 6, .imm 2047]) ∧
    Claims.Shows (Claims.on s 0x80035283) (.ok .I [.reg 5, .reg 6, .imm (-2048)]))

/-- The three stores (R115 to R117): base register, data register, offset, in that order (R172); every word of the class; the examples. -/
def Obligations.StoreWords : Prop :=
  (∀ s : State, ∀ m ∈ [0x0023, 0x1023, 0x2023], s.instr_i &&& 0x707F = m →
    Claims.Shows s (.ok .S [.reg (Fields.rs1 s.instr_i), .reg (Fields.rs2 s.instr_i), .imm (immS s.instr_i)])) ∧
  (∀ s : State, s.instr_i &&& 0x7F = 0x23 →
    Claims.Shows s (.ok .S [.reg (Fields.rs1 s.instr_i), .reg (Fields.rs2 s.instr_i), .imm (immS s.instr_i)])) ∧
  (∀ w : Word, (patS w).extractLsb' 0 5 = Fields.rd w) ∧
  (∀ s : State, Claims.Shows (Claims.on s 0xFE530FA3) (.ok .S [.reg 6, .reg 5, .imm (-1)]) ∧
    Claims.Shows (Claims.on s 0x00531123) (.ok .S [.reg 6, .reg 5, .imm 2]) ∧
    Claims.Shows (Claims.on s 0xFE532E23) (.ok .S [.reg 6, .reg 5, .imm (-4)]))

/-- ADDI to ANDI (R118 to R123): the fall-back of `decode_i_shamt`, tag ISH, the signed immediate, exactly what `decode_i` returns; the examples. -/
def Obligations.OpImmWords : Prop :=
  (∀ s : State, ∀ m ∈ [0x0013, 0x2013, 0x3013, 0x4013, 0x6013, 0x7013], s.instr_i &&& 0x707F = m →
    Claims.Shows s (.ok .ISH (Claims.listI s.instr_i)) ∧ decodeIShamt s.instr_i = decodeI s.instr_i) ∧
  (∀ s : State, Claims.Shows (Claims.on s 0x00A00093) (.ok .ISH [.reg 1, .reg 0, .imm 10]) ∧
    Claims.Shows (Claims.on s 0x00000013) (.ok .ISH [.reg 0, .reg 0, .imm 0]) ∧
    Claims.Shows (Claims.on s 0xFFF32293) (.ok .ISH [.reg 5, .reg 6, .imm (-1)]) ∧
    Claims.Shows (Claims.on s 0xFFF33293) (.ok .ISH [.reg 5, .reg 6, .imm (-1)]) ∧
    Claims.Shows (Claims.on s 0xFFF34293) (.ok .ISH [.reg 5, .reg 6, .imm (-1)]) ∧
    Claims.Shows (Claims.on s 0x7FF36293) (.ok .ISH [.reg 5, .reg 6, .imm 2047]) ∧
    Claims.Shows (Claims.on s 0x80037293) (.ok .ISH [.reg 5, .reg 6, .imm (-2048)]))

/-- SLLI, SRLI, SRAI (R124 to R126): the raw rs2 field as a shift amount, whatever funct7 holds; the examples. -/
def Obligations.ShiftImmWords : Prop :=
  (∀ s : State, ∀ m ∈ [0x00001013, 0x00005013, 0x40005013], s.instr_i &&& 0xFE00707F = m →
    Claims.Shows s (.ok .ISH [.reg (Fields.rd s.instr_i), .reg (Fields.rs1 s.instr_i), .shamt (Fields.rs2 s.instr_i)])) ∧
  (∀ s : State, s.instr_i &&& 0x707F = 0x1013 ∨ s.instr_i &&& 0x707F = 0x5013 →
    Claims.Shows s (.ok .ISH [.reg (Fields.rd s.instr_i), .reg (Fields.rs1 s.instr_i), .shamt (Fields.rs2 s.instr_i)])) ∧
  (∀ s : State, Claims.Shows (Claims.on s 0x00331293) (.ok .ISH [.reg 5, .reg 6, .shamt 3]) ∧
    Claims.Shows (Claims.on s 0x01F35293) (.ok .ISH [.reg 5, .reg 6, .shamt 31]) ∧
    Claims.Shows (Claims.on s 0x41F35293) (.ok .ISH [.reg 5, .reg 6, .shamt 31]))

/-- ADD to AND (R127 to R136): three register indices; every word of the class, whatever funct3 and funct7; the examples. -/
def Obligations.OpRegWords : Prop :=
  (∀ s : State, ∀ m ∈ [0x00000033, 0x40000033, 0x00001033, 0x00002033, 0x00003033, 0x00004033, 0x00005033, 0x40005033, 0x00006033, 0x00007033],
    s.instr_i &&& 0xFE00707F = m →
    Claims.Shows s (.ok .R [.reg (Fields.rd s.instr_i), .reg (Fields.rs1 s.instr_i), .reg (Fields.rs2 s.instr_i)])) ∧
  (∀ s : State, s.instr_i &&& 0x7F = 0x33 →
    Claims.Shows s (.ok .R [.reg (Fields.rd s.instr_i), .reg (Fields.rs1 s.instr_i), .reg (Fields.rs2 s.instr_i)])) ∧
  (∀ s : State, ∀ w ∈ [0x002081B3, 0x402081B3, 0x002091B3, 0x0020A1B3, 0x0020B1B3, 0x0020C1B3, 0x0020D1B3, 0x4020D1B3, 0x0020E1B3, 0x0020F1B3],
    Claims.Shows (Claims.on s w) (.ok .R [.reg 3, .reg 1, .reg 2]))

/-- FENCE, ECALL, EBREAK and the rest of their classes (R137 to R139, R27): the parameter decides, for every word of the class; the examples, with and without
the keys. -/
def Obligations.FenceAndSystemWords : Prop :=
  (∀ s : State, s.instr_i &&& 0x7F = 0x0F →
    Claims.Shows s (if s.params.dispatchExtra.miscMem = true then .ok .I (Claims.listI s.instr_i) else .unknownOpcode 0x03)) ∧
  (∀ s : State, s.instr_i &&& 0x7F = 0x73 →
    Claims.Shows s (if s.params.dispatchExtra.system = true then .ok .I (Claims.listI s.instr_i) else .unknownOpcode 0x1C)) ∧
  (∀ s : State, s.params.dispatchExtra.miscMem = false → Claims.Shows (Claims.on s 0x0FF0000F) (.unknownOpcode 0x03) ∧
    Claims.Shows (Claims.on s 0x0000100F) (.unknownOpcode 0x03)) ∧
  (∀ s : State, s.params.dispatchExtra.miscMem = true → Claims.Shows (Claims.on s 0x0FF0000F) (.ok .I [.reg 0, .reg 0, .imm 255]) ∧
    Claims.Shows (Claims.on s 0x0000100F) (.ok .I [.reg 0, .reg 0, .imm 0])) ∧
  (∀ s : State, s.params.dispatchExtra.system = false → Claims.Shows (Claims.on s 0x00000073) (.unknownOpcode 0x1C) ∧
    Claims.Shows (Claims.on s 0x00100073) (.unknownOpcode 0x1C)) ∧
  (∀ s : State, s.params.dispatchExtra.system = true → Claims.Shows (Claims.on s 0x00000073) (.ok .I [.reg 0, .reg 0, .imm 0]) ∧
    Claims.Shows (Claims.on s 0x00100073) (.ok .I [.reg 0, .reg 0, .imm 1]))

/-! ### Every instruction completes: the whole next state, from its operands alone -/

/-- LUI, AUIPC, JAL, JALR complete in every state, with these ports and nothing else changed. -/
def Obligations.UpperAndJumpComplete : Prop :=
  ∀ (s : State) (rd rs1 : RegIdx) (imm12 : BitVec 12) (imm20 : BitVec 20) (imm21 : BitVec 21),
    exec (.lui rd imm20) s = .next { s with out := Claims.portsU 0x0D rd imm20 } ∧
    exec (.auipc rd imm20) s = .next { s with out := Claims.portsU 0x05 rd imm20 } ∧
    exec (.jal rd imm21) s = .next { s with out := Claims.portsJ rd imm21 } ∧
    exec (.jalr rd rs1 imm12) s = .next { s with out := Claims.portsI 1 0x19 0 rd rs1 imm12 }

/-- The six branches complete in every state. -/
def Obligations.BranchesComplete : Prop :=
  ∀ (s : State) (rs1 rs2 : RegIdx) (imm : BitVec 13),
    exec (.beq rs1 rs2 imm) s = .next { s with out := Claims.portsB 0 rs1 rs2 imm } ∧
    exec (.bne rs1 rs2 imm) s = .next { s with out := Claims.portsB 1 rs1 rs2 imm } ∧
    exec (.blt rs1 rs2 imm) s = .next { s with out := Claims.portsB 4 rs1 rs2 imm } ∧
    exec (.bge rs1 rs2 imm) s = .next { s with out := Claims.portsB 5 rs1 rs2 imm } ∧
    exec (.bltu rs1 rs2 imm) s = .next { s with out := Claims.portsB 6 rs1 rs2 imm } ∧
    exec (.bgeu rs1 rs2 imm) s = .next { s with out := Claims.portsB 7 rs1 rs2 imm }

/-- The five loads complete in every state. -/
def Obligations.LoadsComplete : Prop :=
  ∀ (s : State) (rd rs1 : RegIdx) (imm : BitVec 12),
    exec (.lb rd rs1 imm) s = .next { s with out := Claims.portsI 1 0x00 0 rd rs1 imm } ∧
    exec (.lh rd rs1 imm) s = .next { s with out := Claims.portsI 1 0x00 1 rd rs1 imm } ∧
    exec (.lw rd rs1 imm) s = .next { s with out := Claims.portsI 1 0x00 2 rd rs1 imm } ∧
    exec (.lbu rd rs1 imm) s = .next { s with out := Claims.portsI 1 0x00 4 rd rs1 imm } ∧
    exec (.lhu rd rs1 imm) s = .next { s with out := Claims.portsI 1 0x00 5 rd rs1 imm }

/-- The three stores complete in every state. -/
def Obligations.StoresComplete : Prop :=
  ∀ (s : State) (rs1 rs2 : RegIdx) (imm : BitVec 12),
    exec (.sb rs1 rs2 imm) s = .next { s with out := Claims.portsS 0 rs1 rs2 imm } ∧
    exec (.sh rs1 rs2 imm) s = .next { s with out := Claims.portsS 1 rs1 rs2 imm } ∧
    exec (.sw rs1 rs2 imm) s = .next { s with out := Claims.portsS 2 rs1 rs2 imm }

/-- ADDI to ANDI complete in every state. -/
def Obligations.OpImmComplete : Prop :=
  ∀ (s : State) (rd rs1 : RegIdx) (imm : BitVec 12),
    exec (.addi rd rs1 imm) s = .next { s with out := Claims.portsI 2 0x04 0 rd rs1 imm } ∧
    exec (.slti rd rs1 imm) s = .next { s with out := Claims.portsI 2 0x04 2 rd rs1 imm } ∧
    exec (.sltiu rd rs1 imm) s = .next { s with out := Claims.portsI 2 0x04 3 rd rs1 imm } ∧
    exec (.xori rd rs1 imm) s = .next { s with out := Claims.portsI 2 0x04 4 rd rs1 imm } ∧
    exec (.ori rd rs1 imm) s = .next { s with out := Claims.portsI 2 0x04 6 rd rs1 imm } ∧
    exec (.andi rd rs1 imm) s = .next { s with out := Claims.portsI 2 0x04 7 rd rs1 imm }

/-- SLLI, SRLI, SRAI complete in every state. -/
def Obligations.ShiftImmComplete : Prop :=
  ∀ (s : State) (rd rs1 : RegIdx) (shamt : BitVec 5),
    exec (.slli rd rs1 shamt) s = .next { s with out := Claims.portsShift 0x00 1 rd rs1 shamt } ∧
    exec (.srli rd rs1 shamt) s = .next { s with out := Claims.portsShift 0x00 5 rd rs1 shamt } ∧
    exec (.srai rd rs1 shamt) s = .next { s with out := Claims.portsShift 0x20 5 rd rs1 shamt }

/-- ADD to AND complete in every state. -/
def Obligations.OpRegComplete : Prop :=
  ∀ (s : State) (rd rs1 rs2 : RegIdx),
    exec (.add rd rs1 rs2) s = .next { s with out := Claims.portsR 0x00 0 rd rs1 rs2 } ∧
    exec (.sub rd rs1 rs2) s = .next { s with out := Claims.portsR 0x20 0 rd rs1 rs2 } ∧
    exec (.sll rd rs1 rs2) s = .next { s with out := Claims.portsR 0x00 1 rd rs1 rs2 } ∧
    exec (.slt rd rs1 rs2) s = .next { s with out := Claims.portsR 0x00 2 rd rs1 rs2 } ∧
    exec (.sltu rd rs1 rs2) s = .next { s with out := Claims.portsR 0x00 3 rd rs1 rs2 } ∧
    exec (.xor rd rs1 rs2) s = .next { s with out := Claims.portsR 0x00 4 rd rs1 rs2 } ∧
    exec (.srl rd rs1 rs2) s = .next { s with out := Claims.portsR 0x00 5 rd rs1 rs2 } ∧
    exec (.sra rd rs1 rs2) s = .next { s with out := Claims.portsR 0x20 5 rd rs1 rs2 } ∧
    exec (.or rd rs1 rs2) s = .next { s with out := Claims.portsR 0x00 6 rd rs1 rs2 } ∧
    exec (.and rd rs1 rs2) s = .next { s with out := Claims.portsR 0x00 7 rd rs1 rs2 }

/-- FENCE, ECALL, EBREAK and the two open classes complete in every state: the list where the key is present, the error on the ports where it is not; nothing else
changes, whatever the word asks of a real core. -/
def Obligations.FenceAndSystemComplete : Prop :=
  ∀ (s : State) (low : BitVec 2) (f3 : BitVec 3) (rd rs1 : RegIdx) (imm : BitVec 12),
    exec (.fence rd rs1 imm) s = .next { s with out := Claims.portsOpen s.params.dispatchExtra.miscMem 0x03 0 rd rs1 imm } ∧
    exec .ecall s = .next { s with out := Claims.portsOpen s.params.dispatchExtra.system 0x1C 0 0 0 0x000 } ∧
    exec .ebreak s = .next { s with out := Claims.portsOpen s.params.dispatchExtra.system 0x1C 0 0 0 0x001 } ∧
    exec (.classMiscMem low f3 rd rs1 imm) s = .next { s with out := Claims.portsOpen s.params.dispatchExtra.miscMem 0x03 f3 rd rs1 imm } ∧
    exec (.classSystem low f3 rd rs1 imm) s = .next { s with out := Claims.portsOpen s.params.dispatchExtra.system 0x1C f3 rd rs1 imm }

/-- The nine base classes complete in every state, for every value of the fields the decoder does not check (R90, R91). -/
def Obligations.BaseClassesComplete : Prop :=
  ∀ (s : State) (low : BitVec 2) (f7 : BitVec 7) (f3 : BitVec 3) (rd rs1 rs2 : RegIdx) (imm12 : BitVec 12) (imm13 : BitVec 13) (imm20 : BitVec 20)
    (imm21 : BitVec 21),
    exec (.classLoad low f3 rd rs1 imm12) s = .next { s with out := Claims.portsI 1 0x00 f3 rd rs1 imm12 } ∧
    exec (.classOpImm low f3 rd rs1 imm12) s = .next { s with out := Claims.portsISH f3 rd rs1 imm12 } ∧
    exec (.classAuipc low rd imm20) s = .next { s with out := Claims.portsU 0x05 rd imm20 } ∧
    exec (.classStore low f3 rs1 rs2 imm12) s = .next { s with out := Claims.portsS f3 rs1 rs2 imm12 } ∧
    exec (.classOp low f7 f3 rd rs1 rs2) s = .next { s with out := Claims.portsR f7 f3 rd rs1 rs2 } ∧
    exec (.classLui low rd imm20) s = .next { s with out := Claims.portsU 0x0D rd imm20 } ∧
    exec (.classBranch low f3 rs1 rs2 imm13) s = .next { s with out := Claims.portsB f3 rs1 rs2 imm13 } ∧
    exec (.classJalr low f3 rd rs1 imm12) s = .next { s with out := Claims.portsI 1 0x19 f3 rd rs1 imm12 } ∧
    exec (.classJal low rd imm21) s = .next { s with out := Claims.portsJ rd imm21 }

/-- The 21 classes that no table holds complete in every state, under every parameter: their effect IS the error result on the ports, the taps valid (R89, R150). -/
def Obligations.UnknownClassesComplete : Prop :=
  ∀ (s : State) (low : BitVec 2) (rest : BitVec 25),
    exec (.classUnknown01 low rest) s = .next { s with out := Claims.portsUnknown 0x01 rest } ∧
    exec (.classUnknown02 low rest) s = .next { s with out := Claims.portsUnknown 0x02 rest } ∧
    exec (.classUnknown06 low rest) s = .next { s with out := Claims.portsUnknown 0x06 rest } ∧
    exec (.classUnknown07 low rest) s = .next { s with out := Claims.portsUnknown 0x07 rest } ∧
    exec (.classUnknown09 low rest) s = .next { s with out := Claims.portsUnknown 0x09 rest } ∧
    exec (.classUnknown0A low rest) s = .next { s with out := Claims.portsUnknown 0x0A rest } ∧
    exec (.classUnknown0B low rest) s = .next { s with out := Claims.portsUnknown 0x0B rest } ∧
    exec (.classUnknown0E low rest) s = .next { s with out := Claims.portsUnknown 0x0E rest } ∧
    exec (.classUnknown0F low rest) s = .next { s with out := Claims.portsUnknown 0x0F rest } ∧
    exec (.classUnknown10 low rest) s = .next { s with out := Claims.portsUnknown 0x10 rest } ∧
    exec (.classUnknown11 low rest) s = .next { s with out := Claims.portsUnknown 0x11 rest } ∧
    exec (.classUnknown12 low rest) s = .next { s with out := Claims.portsUnknown 0x12 rest } ∧
    exec (.classUnknown13 low rest) s = .next { s with out := Claims.portsUnknown 0x13 rest } ∧
    exec (.classUnknown14 low rest) s = .next { s with out := Claims.portsUnknown 0x14 rest } ∧
    exec (.classUnknown15 low rest) s = .next { s with out := Claims.portsUnknown 0x15 rest } ∧
    exec (.classUnknown16 low rest) s = .next { s with out := Claims.portsUnknown 0x16 rest } ∧
    exec (.classUnknown17 low rest) s = .next { s with out := Claims.portsUnknown 0x17 rest } ∧
    exec (.classUnknown1A low rest) s = .next { s with out := Claims.portsUnknown 0x1A rest } ∧
    exec (.classUnknown1D low rest) s = .next { s with out := Claims.portsUnknown 0x1D rest } ∧
    exec (.classUnknown1E low rest) s = .next { s with out := Claims.portsUnknown 0x1E rest } ∧
    exec (.classUnknown1F low rest) s = .next { s with out := Claims.portsUnknown 0x1F rest }
end

