-- ==== Sys2Proof/Laws/Fields.lean ====
section
/-! SUPPORT. The fields of a joined word are the parts it was joined from, and a word is the join of its fields (40_field_extractor.md R58 (c)). -/

namespace Sys2Proof.Machine

section
variable (f7 : BitVec 7) (rs2 rs1 : RegIdx) (f3 : BitVec 3) (rd : RegIdx) (op : BitVec 5) (lo : BitVec 2)

/-- Where each bit of a joined word comes from (R31). -/
theorem Fields.getLsbD_join (k : Nat) : (Fields.join f7 rs2 rs1 f3 rd op lo).getLsbD k =
    if k < 2 then lo.getLsbD k else if k < 7 then op.getLsbD (k - 2) else if k < 12 then rd.getLsbD (k - 7)
    else if k < 15 then f3.getLsbD (k - 12) else if k < 20 then rs1.getLsbD (k - 15) else if k < 25 then rs2.getLsbD (k - 20)
    else f7.getLsbD (k - 25) := by
  show (f7 ++ rs2 ++ rs1 ++ f3 ++ rd ++ op ++ lo : BitVec (7 + 5 + 5 + 3 + 5 + 5 + 2)).getLsbD k = _
  simp only [BitVec.getLsbD_append]
  simp only [Nat.sub_sub, Nat.reduceAdd]
  split_ifs <;> first | rfl | omega

@[simp] theorem Fields.low_join : Fields.low (Fields.join f7 rs2 rs1 f3 rd op lo) = lo := by
  apply BitVec.eq_of_getLsbD_eq
  intro i hi
  simp only [Fields.low, BitVec.getLsbD_extractLsb', Fields.getLsbD_join, hi, decide_true, Bool.true_and]
  split_ifs <;> first | omega | (congr 1; omega)

@[simp] theorem Fields.opcode_join : Fields.opcode (Fields.join f7 rs2 rs1 f3 rd op lo) = op := by
  apply BitVec.eq_of_getLsbD_eq
  intro i hi
  simp only [Fields.opcode, BitVec.getLsbD_extractLsb', Fields.getLsbD_join, hi, decide_true, Bool.true_and]
  split_ifs <;> first | omega | (congr 1; omega)

@[simp] theorem Fields.rd_join : Fields.rd (Fields.join f7 rs2 rs1 f3 rd op lo) = rd := by
  apply BitVec.eq_of_getLsbD_eq
  intro i hi
  simp only [Fields.rd, BitVec.getLsbD_extractLsb', Fields.getLsbD_join, hi, decide_true, Bool.true_and]
  split_ifs <;> first | omega | (congr 1; omega)

@[simp] theorem Fields.funct3_join : Fields.funct3 (Fields.join f7 rs2 rs1 f3 rd op lo) = f3 := by
  apply BitVec.eq_of_getLsbD_eq
  intro i hi
  simp only [Fields.funct3, BitVec.getLsbD_extractLsb', Fields.getLsbD_join, hi, decide_true, Bool.true_and]
  split_ifs <;> first | omega | (congr 1; omega)

@[simp] theorem Fields.rs1_join : Fields.rs1 (Fields.join f7 rs2 rs1 f3 rd op lo) = rs1 := by
  apply BitVec.eq_of_getLsbD_eq
  intro i hi
  simp only [Fields.rs1, BitVec.getLsbD_extractLsb', Fields.getLsbD_join, hi, decide_true, Bool.true_and]
  split_ifs <;> first | omega | (congr 1; omega)

@[simp] theorem Fields.rs2_join : Fields.rs2 (Fields.join f7 rs2 rs1 f3 rd op lo) = rs2 := by
  apply BitVec.eq_of_getLsbD_eq
  intro i hi
  simp only [Fields.rs2, BitVec.getLsbD_extractLsb', Fields.getLsbD_join, hi, decide_true, Bool.true_and]
  split_ifs <;> first | omega | (congr 1; omega)

@[simp] theorem Fields.funct7_join : Fields.funct7 (Fields.join f7 rs2 rs1 f3 rd op lo) = f7 := by
  apply BitVec.eq_of_getLsbD_eq
  intro i hi
  simp only [Fields.funct7, BitVec.getLsbD_extractLsb', Fields.getLsbD_join, hi, decide_true, Bool.true_and]
  split_ifs <;> first | omega | (congr 1; omega)

@[simp] theorem Fields.imm110_join : Fields.imm110 (Fields.join f7 rs2 rs1 f3 rd op lo) = f7 ++ rs2 := by
  apply BitVec.eq_of_getLsbD_eq
  intro i hi
  simp only [Fields.imm110, BitVec.getLsbD_extractLsb', Fields.getLsbD_join, hi, decide_true, Bool.true_and, BitVec.getLsbD_append]
  split_ifs <;> first | omega | (congr 1; omega)

@[simp] theorem Fields.imm3112_join : Fields.imm3112 (Fields.join f7 rs2 rs1 f3 rd op lo) = f7 ++ rs2 ++ rs1 ++ f3 := by
  apply BitVec.eq_of_getLsbD_eq
  intro i hi
  show _ = (f7 ++ rs2 ++ rs1 ++ f3 : BitVec (7 + 5 + 5 + 3)).getLsbD i
  simp only [Fields.imm3112, BitVec.getLsbD_extractLsb', Fields.getLsbD_join, hi, decide_true, Bool.true_and, BitVec.getLsbD_append,
    Nat.sub_sub]
  split_ifs <;> first | omega | (congr 1; omega)
end

/-- A word is the join of its fields: nothing is lost (R58 (c)). -/
theorem Fields.join_fields (w : Word) :
    Fields.join (Fields.funct7 w) (Fields.rs2 w) (Fields.rs1 w) (Fields.funct3 w) (Fields.rd w) (Fields.opcode w) (Fields.low w) = w := by
  apply BitVec.eq_of_getLsbD_eq
  intro i hi
  rw [Fields.getLsbD_join]
  simp only [Fields.funct7, Fields.rs2, Fields.rs1, Fields.funct3, Fields.rd, Fields.opcode, Fields.low, BitVec.getLsbD_extractLsb']
  split_ifs <;> (rw [decide_eq_true (by omega), Bool.true_and]; congr 1; omega)

/-- `imm110` is `funct7` and `rs2` read together (R31, R56). -/
theorem Fields.imm110_eq (w : Word) : Fields.imm110 w = Fields.funct7 w ++ Fields.rs2 w := by
  conv_lhs => rw [← Fields.join_fields w]
  exact Fields.imm110_join ..

/-- `imm3112` is `funct7`, `rs2`, `rs1` and `funct3` read together (R31, R57). -/
theorem Fields.imm3112_eq (w : Word) :
    Fields.imm3112 w = Fields.funct7 w ++ Fields.rs2 w ++ Fields.rs1 w ++ Fields.funct3 w := by
  conv_lhs => rw [← Fields.join_fields w]
  exact Fields.imm3112_join ..

end Sys2Proof.Machine
end

