-- ==== Sys2Proof/Laws/Immediates.lean ====
section
/-! SUPPORT. The sign extender on a bit vector of its own width, and the immediates of an encoded word. -/

namespace Sys2Proof.Machine

/-- On a pattern of its own width the source's formula is the two's-complement value (R60). -/
theorem signExtend_eq_toInt {n : Nat} (v : BitVec n) (hn : 1 ≤ n) : signExtend v.toNat n = v.toInt := by
  obtain ⟨m, rfl⟩ : ∃ m, n = m + 1 := ⟨n - 1, by omega⟩
  have hv : v.toNat < 2 ^ (m + 1) := v.isLt
  have hpow : 2 ^ (m + 1) = 2 * 2 ^ m := by rw [pow_succ]; omega
  have hpos : 0 < 2 ^ m := Nat.two_pow_pos m
  unfold signExtend
  simp only [Nat.add_sub_cancel, Nat.one_shiftLeft, Nat.and_two_pow_sub_one_eq_mod, BitVec.toInt_eq_toNat_cond, Nat.and_two_pow]
  rcases Nat.lt_or_ge v.toNat (2 ^ m) with h | h
  · rw [Nat.testBit_lt_two_pow h, Nat.mod_eq_of_lt h, if_pos (by omega)]
    simp
  · have hb : v.toNat.testBit m = true := by
      rw [Nat.testBit_eq_decide_div_mod_eq]
      have : v.toNat / 2 ^ m = 1 := Nat.div_eq_of_lt_le (by omega) (by omega)
      simp [this]
    have hm : v.toNat % 2 ^ m = v.toNat - 2 ^ m := by
      rw [Nat.mod_eq_sub_mod h, Nat.mod_eq_of_lt (by omega)]
    rw [hb, hm, if_neg (by omega), hpow]
    push_cast [h]
    simp
    ring

/-- On the port (R14) an immediate is its pattern with the sign bit copied upward (R62). -/
theorem ofInt_signExtend {n : Nat} (v : BitVec n) (hn : 1 ≤ n) :
    BitVec.ofInt 32 (signExtend v.toNat n) = v.signExtend 32 := by
  rw [signExtend_eq_toInt v hn, BitVec.signExtend]

end Sys2Proof.Machine
end

