-- ==== Sys2Proof/Laws/Decode.lean ====
section
/-! SUPPORT. The opcode map is a bijection, and the operands of an encoded word are the operands it was encoded from, format by format. -/

namespace Sys2Proof

open Machine

/-- The class of a class's key is the class (R41). -/
@[simp] theorem OpClass.ofField_key (c : OpClass) : OpClass.ofField c.key = c := by
  cases c <;> rfl

/-- The key of an opcode value's class is the value (R41). -/
@[simp] theorem OpClass.key_ofField : ∀ op : BitVec 5, (OpClass.ofField op).key = op := by
  decide

/-- A word with a class's key is decoded as a word of that class. -/
theorem decodeWord_of_opcode (c : OpClass) (w : Word) (h : Fields.opcode w = c.key) : decodeWord w = decodeClass c w := by
  rw [decodeWord, h, OpClass.ofField_key]

/-! ### The fields of an encoded word, layout by layout -/

section
variable (low : BitVec 2) (op : BitVec 5) (f7 : BitVec 7) (f3 : BitVec 3) (rd rs1 rs2 : RegIdx)
variable (imm12 : BitVec 12) (imm13 : BitVec 13) (imm20 : BitVec 20) (imm21 : BitVec 21)
@[simp] theorem low_encR : Fields.low (encR low op f7 f3 rd rs1 rs2) = low := Fields.low_join ..
@[simp] theorem opcode_encR : Fields.opcode (encR low op f7 f3 rd rs1 rs2) = op := Fields.opcode_join ..
@[simp] theorem funct7_encR : Fields.funct7 (encR low op f7 f3 rd rs1 rs2) = f7 := Fields.funct7_join ..
@[simp] theorem funct3_encR : Fields.funct3 (encR low op f7 f3 rd rs1 rs2) = f3 := Fields.funct3_join ..
@[simp] theorem rd_encR : Fields.rd (encR low op f7 f3 rd rs1 rs2) = rd := Fields.rd_join ..
@[simp] theorem rs1_encR : Fields.rs1 (encR low op f7 f3 rd rs1 rs2) = rs1 := Fields.rs1_join ..
@[simp] theorem rs2_encR : Fields.rs2 (encR low op f7 f3 rd rs1 rs2) = rs2 := Fields.rs2_join ..
@[simp] theorem low_encI : Fields.low (encI low op f3 rd rs1 imm12) = low := Fields.low_join ..
@[simp] theorem opcode_encI : Fields.opcode (encI low op f3 rd rs1 imm12) = op := Fields.opcode_join ..
@[simp] theorem funct7_encI : Fields.funct7 (encI low op f3 rd rs1 imm12) = imm12.extractLsb' 5 7 := Fields.funct7_join ..
@[simp] theorem funct3_encI : Fields.funct3 (encI low op f3 rd rs1 imm12) = f3 := Fields.funct3_join ..
@[simp] theorem rd_encI : Fields.rd (encI low op f3 rd rs1 imm12) = rd := Fields.rd_join ..
@[simp] theorem rs1_encI : Fields.rs1 (encI low op f3 rd rs1 imm12) = rs1 := Fields.rs1_join ..
@[simp] theorem rs2_encI : Fields.rs2 (encI low op f3 rd rs1 imm12) = imm12.extractLsb' 0 5 := Fields.rs2_join ..
@[simp] theorem low_encS : Fields.low (encS low op f3 rs1 rs2 imm12) = low := Fields.low_join ..
@[simp] theorem opcode_encS : Fields.opcode (encS low op f3 rs1 rs2 imm12) = op := Fields.opcode_join ..
@[simp] theorem funct3_encS : Fields.funct3 (encS low op f3 rs1 rs2 imm12) = f3 := Fields.funct3_join ..
@[simp] theorem rs1_encS : Fields.rs1 (encS low op f3 rs1 rs2 imm12) = rs1 := Fields.rs1_join ..
@[simp] theorem rs2_encS : Fields.rs2 (encS low op f3 rs1 rs2 imm12) = rs2 := Fields.rs2_join ..
@[simp] theorem low_encB : Fields.low (encB low op f3 rs1 rs2 imm13) = low := Fields.low_join ..
@[simp] theorem opcode_encB : Fields.opcode (encB low op f3 rs1 rs2 imm13) = op := Fields.opcode_join ..
@[simp] theorem funct3_encB : Fields.funct3 (encB low op f3 rs1 rs2 imm13) = f3 := Fields.funct3_join ..
@[simp] theorem rs1_encB : Fields.rs1 (encB low op f3 rs1 rs2 imm13) = rs1 := Fields.rs1_join ..
@[simp] theorem rs2_encB : Fields.rs2 (encB low op f3 rs1 rs2 imm13) = rs2 := Fields.rs2_join ..
@[simp] theorem low_encU : Fields.low (encU low op rd imm20) = low := Fields.low_join ..
@[simp] theorem opcode_encU : Fields.opcode (encU low op rd imm20) = op := Fields.opcode_join ..
@[simp] theorem rd_encU : Fields.rd (encU low op rd imm20) = rd := Fields.rd_join ..
@[simp] theorem low_encJ : Fields.low (encJ low op rd imm21) = low := Fields.low_join ..
@[simp] theorem opcode_encJ : Fields.opcode (encJ low op rd imm21) = op := Fields.opcode_join ..
@[simp] theorem rd_encJ : Fields.rd (encJ low op rd imm21) = rd := Fields.rd_join ..
end

/-! ### The operands of an encoded word -/

section
variable (low : BitVec 2) (op : BitVec 5) (f3 : BitVec 3) (rd rs1 rs2 : RegIdx) (rest : BitVec 25)

/-- Where each bit of a word of an unknown class comes from. -/
theorem getLsbD_encRest (k : Nat) : (encRest low op rest).getLsbD k =
    if k < 2 then low.getLsbD k else if k < 7 then op.getLsbD (k - 2) else rest.getLsbD (k - 7) := by
  show (rest ++ op ++ low : BitVec (25 + 5 + 2)).getLsbD k = _
  simp only [BitVec.getLsbD_append]
  simp only [Nat.sub_sub, Nat.reduceAdd]
  split_ifs <;> first | rfl | omega

@[simp] theorem opcode_encRest : Fields.opcode (encRest low op rest) = op := by
  apply BitVec.eq_of_getLsbD_eq
  intro i hi
  simp only [Fields.opcode, BitVec.getLsbD_extractLsb', getLsbD_encRest, hi, decide_true, Bool.true_and]
  split_ifs <;> first | omega | (congr 1; omega)

@[simp] theorem low_encRest : Fields.low (encRest low op rest) = low := by
  apply BitVec.eq_of_getLsbD_eq
  intro i hi
  simp only [Fields.low, BitVec.getLsbD_extractLsb', getLsbD_encRest, hi, decide_true, Bool.true_and]
  split_ifs <;> first | omega | (congr 1; omega)

@[simp] theorem patRest_encRest : patRest (encRest low op rest) = rest := by
  apply BitVec.eq_of_getLsbD_eq
  intro i hi
  simp only [patRest, BitVec.getLsbD_extractLsb', getLsbD_encRest, hi, decide_true, Bool.true_and]
  split_ifs <;> first | omega | (congr 1; omega)

@[simp] theorem patI_encI (imm : BitVec 12) : patI (encI low op f3 rd rs1 imm) = imm := by
  rw [patI, encI, Fields.imm110_join]
  apply BitVec.eq_of_getLsbD_eq
  intro i hi
  simp only [BitVec.getLsbD_append, BitVec.getLsbD_extractLsb']
  split_ifs <;> (rw [decide_eq_true (by omega), Bool.true_and]; congr 1; omega)

@[simp] theorem patS_encS (imm : BitVec 12) : patS (encS low op f3 rs1 rs2 imm) = imm := by
  rw [patS, encS, Fields.funct7_join, Fields.rd_join]
  apply BitVec.eq_of_getLsbD_eq
  intro i hi
  simp only [BitVec.getLsbD_append, BitVec.getLsbD_extractLsb']
  split_ifs <;> (rw [decide_eq_true (by omega), Bool.true_and]; congr 1; omega)

/-- For an even offset, the B layout loses nothing (R36, R39). -/
theorem patB_encB (imm : BitVec 13) (h : evenImm imm = true) : patB (encB low op f3 rs1 rs2 imm) = imm := by
  rw [patB, encB, Fields.funct7_join, Fields.rd_join]
  have h0 : imm[0] = false := by simpa [evenImm] using h
  apply BitVec.eq_of_getLsbD_eq
  intro i hi
  simp only [BitVec.getLsbD_append, BitVec.getLsbD_extractLsb']
  interval_cases i <;> simp [h0]

@[simp] theorem patU_encU (imm : BitVec 20) : patU (encU low op rd imm) = imm := by
  rw [patU, encU, Fields.imm3112_join]
  apply BitVec.eq_of_getLsbD_eq
  intro i hi
  show (_ : BitVec (7 + 5 + 5 + 3)).getLsbD i = _
  simp only [BitVec.getLsbD_append, BitVec.getLsbD_extractLsb']
  split_ifs <;> (rw [decide_eq_true (by omega), Bool.true_and]; congr 1; omega)

/-- For an even offset, the J layout loses nothing (R38, R39). -/
theorem patJ_encJ (imm : BitVec 21) (h : evenImm imm = true) : patJ (encJ low op rd imm) = imm := by
  have hu := patU_encU low op rd (imm.extractLsb' 20 1 ++ imm.extractLsb' 1 10 ++ imm.extractLsb' 11 1 ++ imm.extractLsb' 12 8)
  rw [patU] at hu
  rw [patJ, encJ, hu]
  have h0 : imm[0] = false := by simpa [evenImm] using h
  apply BitVec.eq_of_getLsbD_eq
  intro i hi
  simp only [BitVec.getLsbD_append, BitVec.getLsbD_extractLsb']
  interval_cases i <;> simp [h0]
end

end Sys2Proof
end

