-- ==== Sys2Proof/Laws/State.lean ====
section
/-! SUPPORT. One lemma per field for each update of a state and of its view, true by definition. -/

namespace Sys2Proof.Machine

@[simp] theorem State.present_instr_i (s : State) (x : Nat) : (s.present x).instr_i = maskInput x := rfl
@[simp] theorem State.present_out (s : State) (x : Nat) : (s.present x).out = s.out := rfl
@[simp] theorem State.present_params (s : State) (x : Nat) : (s.present x).params = s.params := rfl

/-- The last word presented is the one that stands on the port. -/
@[simp] theorem State.present_present (s : State) (x y : Nat) : (s.present x).present y = s.present y := rfl

section
variable (w : Word) (r : Result)
@[simp] theorem portsOf_opcode_o : (portsOf w r).opcode_o = Fields.opcode w := rfl
@[simp] theorem portsOf_rd_o : (portsOf w r).rd_o = Fields.rd w := rfl
@[simp] theorem portsOf_funct3_o : (portsOf w r).funct3_o = Fields.funct3 w := rfl
@[simp] theorem portsOf_rs1_o : (portsOf w r).rs1_o = Fields.rs1 w := rfl
@[simp] theorem portsOf_rs2_o : (portsOf w r).rs2_o = Fields.rs2 w := rfl
@[simp] theorem portsOf_funct7_o : (portsOf w r).funct7_o = Fields.funct7 w := rfl
@[simp] theorem portsOf_imm110_o : (portsOf w r).imm110_o = Fields.imm110 w := rfl
@[simp] theorem portsOf_imm3112_o : (portsOf w r).imm3112_o = Fields.imm3112 w := rfl
@[simp] theorem portsOf_err_o : (portsOf w r).err_o = errCode r := rfl
@[simp] theorem portsOf_fmt_o : (portsOf w r).fmt_o = fmtCode r := rfl
@[simp] theorem portsOf_nargs_o : (portsOf w r).nargs_o = nargsCode r := rfl
@[simp] theorem portsOf_arg0_kind_o : (portsOf w r).arg0_kind_o = kindCode r.args[0]? := rfl
@[simp] theorem portsOf_arg1_kind_o : (portsOf w r).arg1_kind_o = kindCode r.args[1]? := rfl
@[simp] theorem portsOf_arg2_kind_o : (portsOf w r).arg2_kind_o = kindCode r.args[2]? := rfl
@[simp] theorem portsOf_arg0_val_o : (portsOf w r).arg0_val_o = valCode r.args[0]? := rfl
@[simp] theorem portsOf_arg1_val_o : (portsOf w r).arg1_val_o = valCode r.args[1]? := rfl
@[simp] theorem portsOf_arg2_val_o : (portsOf w r).arg2_val_o = valCode r.args[2]? := rfl
end

end Sys2Proof.Machine
end

