-- ==== Sys2Proof/Laws/Ops.lean ====
section
/-! SUPPORT. What each shared operation can do, once: each answers a next state that differs from the old one in its output ports only. -/

namespace Sys2Proof.Machine

section
variable (w : Word) (r : Result) (fmt : Fmt) (op : BitVec 5) (args : List Operand) (s t : State)

theorem settle_eq_next : settle w r s = .next { s with out := portsOf w r } := rfl

theorem returnOk_eq_settle : returnOk w fmt args s = settle w (.ok fmt args) s := rfl

theorem raiseUnknownOpcode_eq_settle : raiseUnknownOpcode w op s = settle w (.unknownOpcode op) s := rfl

/-- An open class settles on one of the two results R88 gives it. -/
theorem returnIfKey_eq_settle (present : Bool) :
    returnIfKey present w op args s = settle w (if present then .ok .I args else .unknownOpcode op) s := by
  cases present <;> rfl

/-- Everything `settle` does. -/
theorem settle_cases (h : settle w r s = .next t) :
    t.instr_i = s.instr_i ∧ t.params = s.params ∧ t.out = portsOf w r := by
  rw [settle_eq_next] at h
  cases h
  exact ⟨rfl, rfl, rfl⟩

/-- Two words with the same fields drive the same ports: no port shows w[1:0]. -/
theorem portsOf_congr {w v : Word} (h : Fields.opcode w = Fields.opcode v) (h31 : Fields.imm3112 w = Fields.imm3112 v)
    (h12 : Fields.imm110 w = Fields.imm110 v) (hrd : Fields.rd w = Fields.rd v) (hf3 : Fields.funct3 w = Fields.funct3 v)
    (h1 : Fields.rs1 w = Fields.rs1 v) (h2 : Fields.rs2 w = Fields.rs2 v) (hf7 : Fields.funct7 w = Fields.funct7 v) :
    portsOf w r = portsOf v r := by
  simp only [portsOf, h, h31, h12, hrd, hf3, h1, h2, hf7]
end

end Sys2Proof.Machine
end

