-- ==== Sys2Proof/Laws/PerInstr.lean ====
section
/-! SUPPORT. Per-instruction laws. Family EncodedKey: the word of an instruction carries, in its opcode field, the key of the row's class (44_opcode_dispatch.md R86,
R88, R89). -/

namespace Sys2Proof.Laws

open Sys2Proof.Machine

/-- The opcode field of the encoded word is the key of the row's class. -/
def EncodedKey.Statement (i : Instr) : Prop := Fields.opcode (encode i) = i.opClass.key

theorem EncodedKey.lui a b : EncodedKey.Statement (.lui a b) := Fields.opcode_join ..

theorem EncodedKey.auipc a b : EncodedKey.Statement (.auipc a b) := Fields.opcode_join ..

theorem EncodedKey.jal a b : EncodedKey.Statement (.jal a b) := Fields.opcode_join ..

theorem EncodedKey.jalr a b c : EncodedKey.Statement (.jalr a b c) := Fields.opcode_join ..

theorem EncodedKey.beq a b c : EncodedKey.Statement (.beq a b c) := Fields.opcode_join ..

theorem EncodedKey.bne a b c : EncodedKey.Statement (.bne a b c) := Fields.opcode_join ..

theorem EncodedKey.blt a b c : EncodedKey.Statement (.blt a b c) := Fields.opcode_join ..

theorem EncodedKey.bge a b c : EncodedKey.Statement (.bge a b c) := Fields.opcode_join ..

theorem EncodedKey.bltu a b c : EncodedKey.Statement (.bltu a b c) := Fields.opcode_join ..

theorem EncodedKey.bgeu a b c : EncodedKey.Statement (.bgeu a b c) := Fields.opcode_join ..

theorem EncodedKey.lb a b c : EncodedKey.Statement (.lb a b c) := Fields.opcode_join ..

theorem EncodedKey.lh a b c : EncodedKey.Statement (.lh a b c) := Fields.opcode_join ..

theorem EncodedKey.lw a b c : EncodedKey.Statement (.lw a b c) := Fields.opcode_join ..

theorem EncodedKey.lbu a b c : EncodedKey.Statement (.lbu a b c) := Fields.opcode_join ..

theorem EncodedKey.lhu a b c : EncodedKey.Statement (.lhu a b c) := Fields.opcode_join ..

theorem EncodedKey.sb a b c : EncodedKey.Statement (.sb a b c) := Fields.opcode_join ..

theorem EncodedKey.sh a b c : EncodedKey.Statement (.sh a b c) := Fields.opcode_join ..

theorem EncodedKey.sw a b c : EncodedKey.Statement (.sw a b c) := Fields.opcode_join ..

theorem EncodedKey.addi a b c : EncodedKey.Statement (.addi a b c) := Fields.opcode_join ..

theorem EncodedKey.slti a b c : EncodedKey.Statement (.slti a b c) := Fields.opcode_join ..

theorem EncodedKey.sltiu a b c : EncodedKey.Statement (.sltiu a b c) := Fields.opcode_join ..

theorem EncodedKey.xori a b c : EncodedKey.Statement (.xori a b c) := Fields.opcode_join ..

theorem EncodedKey.ori a b c : EncodedKey.Statement (.ori a b c) := Fields.opcode_join ..

theorem EncodedKey.andi a b c : EncodedKey.Statement (.andi a b c) := Fields.opcode_join ..

theorem EncodedKey.slli a b c : EncodedKey.Statement (.slli a b c) := Fields.opcode_join ..

theorem EncodedKey.srli a b c : EncodedKey.Statement (.srli a b c) := Fields.opcode_join ..

theorem EncodedKey.srai a b c : EncodedKey.Statement (.srai a b c) := Fields.opcode_join ..

theorem EncodedKey.add a b c : EncodedKey.Statement (.add a b c) := Fields.opcode_join ..

theorem EncodedKey.sub a b c : EncodedKey.Statement (.sub a b c) := Fields.opcode_join ..

theorem EncodedKey.sll a b c : EncodedKey.Statement (.sll a b c) := Fields.opcode_join ..

theorem EncodedKey.slt a b c : EncodedKey.Statement (.slt a b c) := Fields.opcode_join ..

theorem EncodedKey.sltu a b c : EncodedKey.Statement (.sltu a b c) := Fields.opcode_join ..

theorem EncodedKey.xor a b c : EncodedKey.Statement (.xor a b c) := Fields.opcode_join ..

theorem EncodedKey.srl a b c : EncodedKey.Statement (.srl a b c) := Fields.opcode_join ..

theorem EncodedKey.sra a b c : EncodedKey.Statement (.sra a b c) := Fields.opcode_join ..

theorem EncodedKey.or a b c : EncodedKey.Statement (.or a b c) := Fields.opcode_join ..

theorem EncodedKey.and a b c : EncodedKey.Statement (.and a b c) := Fields.opcode_join ..

theorem EncodedKey.fence a b c : EncodedKey.Statement (.fence a b c) := Fields.opcode_join ..

theorem EncodedKey.ecall : EncodedKey.Statement .ecall := by unfold EncodedKey.Statement; decide

theorem EncodedKey.ebreak : EncodedKey.Statement .ebreak := by unfold EncodedKey.Statement; decide

theorem EncodedKey.classLoad a b c d e : EncodedKey.Statement (.classLoad a b c d e) := Fields.opcode_join ..

theorem EncodedKey.classOpImm a b c d e : EncodedKey.Statement (.classOpImm a b c d e) := Fields.opcode_join ..

theorem EncodedKey.classAuipc a b c : EncodedKey.Statement (.classAuipc a b c) := Fields.opcode_join ..

theorem EncodedKey.classStore a b c d e : EncodedKey.Statement (.classStore a b c d e) := Fields.opcode_join ..

theorem EncodedKey.classOp a b c d e f : EncodedKey.Statement (.classOp a b c d e f) := Fields.opcode_join ..

theorem EncodedKey.classLui a b c : EncodedKey.Statement (.classLui a b c) := Fields.opcode_join ..

theorem EncodedKey.classBranch a b c d e : EncodedKey.Statement (.classBranch a b c d e) := Fields.opcode_join ..

theorem EncodedKey.classJalr a b c d e : EncodedKey.Statement (.classJalr a b c d e) := Fields.opcode_join ..

theorem EncodedKey.classJal a b c : EncodedKey.Statement (.classJal a b c) := Fields.opcode_join ..

theorem EncodedKey.classMiscMem a b c d e : EncodedKey.Statement (.classMiscMem a b c d e) := Fields.opcode_join ..

theorem EncodedKey.classSystem a b c d e : EncodedKey.Statement (.classSystem a b c d e) := Fields.opcode_join ..

theorem EncodedKey.classUnknown01 a b : EncodedKey.Statement (.classUnknown01 a b) := opcode_encRest ..

theorem EncodedKey.classUnknown02 a b : EncodedKey.Statement (.classUnknown02 a b) := opcode_encRest ..

theorem EncodedKey.classUnknown06 a b : EncodedKey.Statement (.classUnknown06 a b) := opcode_encRest ..

theorem EncodedKey.classUnknown07 a b : EncodedKey.Statement (.classUnknown07 a b) := opcode_encRest ..

theorem EncodedKey.classUnknown09 a b : EncodedKey.Statement (.classUnknown09 a b) := opcode_encRest ..

theorem EncodedKey.classUnknown0A a b : EncodedKey.Statement (.classUnknown0A a b) := opcode_encRest ..

theorem EncodedKey.classUnknown0B a b : EncodedKey.Statement (.classUnknown0B a b) := opcode_encRest ..

theorem EncodedKey.classUnknown0E a b : EncodedKey.Statement (.classUnknown0E a b) := opcode_encRest ..

theorem EncodedKey.classUnknown0F a b : EncodedKey.Statement (.classUnknown0F a b) := opcode_encRest ..

theorem EncodedKey.classUnknown10 a b : EncodedKey.Statement (.classUnknown10 a b) := opcode_encRest ..

theorem EncodedKey.classUnknown11 a b : EncodedKey.Statement (.classUnknown11 a b) := opcode_encRest ..

theorem EncodedKey.classUnknown12 a b : EncodedKey.Statement (.classUnknown12 a b) := opcode_encRest ..

theorem EncodedKey.classUnknown13 a b : EncodedKey.Statement (.classUnknown13 a b) := opcode_encRest ..

theorem EncodedKey.classUnknown14 a b : EncodedKey.Statement (.classUnknown14 a b) := opcode_encRest ..

theorem EncodedKey.classUnknown15 a b : EncodedKey.Statement (.classUnknown15 a b) := opcode_encRest ..

theorem EncodedKey.classUnknown16 a b : EncodedKey.Statement (.classUnknown16 a b) := opcode_encRest ..

theorem EncodedKey.classUnknown17 a b : EncodedKey.Statement (.classUnknown17 a b) := opcode_encRest ..

theorem EncodedKey.classUnknown1A a b : EncodedKey.Statement (.classUnknown1A a b) := opcode_encRest ..

theorem EncodedKey.classUnknown1D a b : EncodedKey.Statement (.classUnknown1D a b) := opcode_encRest ..

theorem EncodedKey.classUnknown1E a b : EncodedKey.Statement (.classUnknown1E a b) := opcode_encRest ..

theorem EncodedKey.classUnknown1F a b : EncodedKey.Statement (.classUnknown1F a b) := opcode_encRest ..

end Sys2Proof.Laws
end

