-- ==== Sys2Proof/Tests/Slice0.lean ====
section
/-! SUPPORT. The model's own tests: the well-formedness smoke, decoding of words written out from the spec's encodings, single steps against the spec's
vectors, and for every statement with hypotheses concrete values that meet them. Expected results come from the spec (the rule or table is named); small closed
facts, each by `decide`. -/

namespace Sys2Proof.Tests

open Machine

/-- The reset state with a word on its input. -/
def on (w : Word) : State := { State.reset with instr_i := w }

/-- The same with both open keys in `DISPATCH_EXTRA`. -/
def onWithKeys (w : Word) : State :=
  { State.reset with instr_i := w, params := { regname := RegNames.default, dispatchExtra := { miscMem := true, system := true } } }

/-- The ports after one step, if it answers a next state. -/
def portsAfter (s : State) : Option Ports :=
  match step s with
  | .next t => some t.out
  | .fault _ => none
  | .refused _ => none

/-- The result that the ports show after one step. -/
def resultAfter (s : State) : Option Result := (portsAfter s).bind Ports.result

/-! ### Well-formedness: one ill-formed term for each check -/

/-- An odd B or J offset is no instruction (R39: imm[0] is the constant 0). -/
theorem test_wf_refuses_odd_offsets :
    [Instr.jal 1 0x000001, .beq 1 2 0x0001, .bne 1 2 0x0003, .blt 1 2 0x1FFF, .bge 1 2 0x0101, .bltu 1 2 0x0801, .bgeu 1 2 0x1001,
      .classBranch 3 2 1 2 0x0001, .classBranch 0 0 1 2 0x0003, .classJal 0 1 0x100001].map Instr.wf = List.replicate 10 false := by decide

/-- A class constructor does not hold a word that a named row matches (log 5): one term for each named row's test. -/
theorem test_wf_refuses_named_words_in_classes :
    [Instr.classLoad 3 0 5 6 0, .classLoad 3 1 5 6 0, .classLoad 3 2 5 6 0, .classLoad 3 4 5 6 0, .classLoad 3 5 5 6 0,
      .classOpImm 3 0 5 6 0, .classOpImm 3 1 5 6 0x01F, .classOpImm 3 5 5 6 0x01F, .classOpImm 3 5 5 6 0x41F, .classOpImm 3 7 5 6 0,
      .classAuipc 3 5 0, .classStore 3 0 5 6 0, .classStore 3 1 5 6 0, .classStore 3 2 5 6 0, .classOp 3 0x00 7 1 2 3, .classOp 3 0x20 0 1 2 3,
      .classOp 3 0x20 5 1 2 3, .classLui 3 5 0, .classBranch 3 0 1 2 0, .classBranch 3 7 1 2 0, .classJalr 3 0 1 2 0, .classJal 3 1 0,
      .classMiscMem 3 0 1 2 0, .classSystem 3 0 0 0 0x000, .classSystem 3 0 0 0 0x001].map Instr.wf = List.replicate 25 false := by decide

/-- What the checks let through: the neighbours of the refused terms. -/
theorem test_wf_accepts_the_neighbours :
    [Instr.jal 1 0x000002, .bgeu 1 2 0x1FFE, .classLoad 3 3 5 6 0, .classLoad 2 0 5 6 0, .classOpImm 3 1 5 6 0x020, .classOpImm 3 5 5 6 0x43F,
      .classOpImm 0 0 5 6 0, .classStore 3 3 5 6 0, .classOp 3 0x20 1 1 2 3, .classOp 3 0x01 0 1 2 3, .classBranch 3 3 1 2 0x0002, .classJalr 3 1 1 2 0,
      .classJal 2 1 0, .classMiscMem 3 1 1 2 0, .classSystem 3 0 0 0 0x002, .classSystem 3 0 1 0 0x000, .classUnknown1F 3 0].map Instr.wf
      = List.replicate 17 true := by decide

/-! ### Decoding: words written out field by field, high bits first -/

/-- U, J and I layouts (R37, R38, R33; R100 to R103). The jal word is `jal x1, -8` of R69. -/
theorem test_decode_upper_and_jump :
    decodeWord 0b00010010001101000101_00101_01101_11 = .lui 5 0x12345 ∧
    decodeWord 0b11111111111111111111_00101_00101_11 = .auipc 5 0xFFFFF ∧
    decodeWord 0b1_1111111100_1_11111111_00001_11011_11 = .jal 1 0x1FFFF8 ∧
    decodeWord 0b0_0000000000_1_00000000_11111_11011_11 = .jal 31 0x000800 ∧
    decodeWord 0b111111111100_00101_000_00001_11001_11 = .jalr 1 5 0xFFC := by
  refine ⟨?_, ?_, ?_, ?_, ?_⟩ <;> decide

/-- B layout (R36; R104 to R109), with the single bits of R67: imm[11] from w[7], imm[1] from w[8], imm[5] from w[25], imm[12] from w[31]. -/
theorem test_decode_branches :
    decodeWord 0b0_000000_00010_00001_000_0000_1_11000_11 = .beq 1 2 0x0800 ∧
    decodeWord 0b0_000000_00010_00001_001_0001_0_11000_11 = .bne 1 2 0x0002 ∧
    decodeWord 0b0_000001_00010_00001_100_0000_0_11000_11 = .blt 1 2 0x0020 ∧
    decodeWord 0b1_000000_00010_00001_101_0000_0_11000_11 = .bge 1 2 0x1000 ∧
    decodeWord 0b0_111111_00010_00001_110_1111_1_11000_11 = .bltu 1 2 0x0FFE ∧
    decodeWord 0b1_111111_11111_00000_111_1100_1_11000_11 = .bgeu 0 31 0x1FF8 := by
  refine ⟨?_, ?_, ?_, ?_, ?_, ?_⟩ <;> decide

/-- I layout (R33; R110 to R114). -/
theorem test_decode_loads :
    decodeWord 0b000000000000_00110_000_00101_00000_11 = .lb 5 6 0x000 ∧
    decodeWord 0b111111111110_00110_001_00101_00000_11 = .lh 5 6 0xFFE ∧
    decodeWord 0b000000000100_00110_010_00101_00000_11 = .lw 5 6 0x004 ∧
    decodeWord 0b011111111111_00110_100_00101_00000_11 = .lbu 5 6 0x7FF ∧
    decodeWord 0b100000000000_00110_101_00101_00000_11 = .lhu 5 6 0x800 := by
  refine ⟨?_, ?_, ?_, ?_, ?_⟩ <;> decide

/-- S layout (R35; R115 to R117). -/
theorem test_decode_stores :
    decodeWord 0b1111111_00101_00110_000_11111_01000_11 = .sb 6 5 0xFFF ∧
    decodeWord 0b0000001_00101_00110_001_00000_01000_11 = .sh 6 5 0x020 ∧
    decodeWord 0b0000000_00101_00110_010_11111_01000_11 = .sw 6 5 0x01F := by
  refine ⟨?_, ?_, ?_⟩ <;> decide

/-- I layout in class OP-IMM (R34; R118 to R123). -/
theorem test_decode_op_imm :
    decodeWord 0b000000001010_00110_000_00101_00100_11 = .addi 5 6 0x00A ∧
    decodeWord 0b111111111111_00110_010_00101_00100_11 = .slti 5 6 0xFFF ∧
    decodeWord 0b011111111111_00110_011_00101_00100_11 = .sltiu 5 6 0x7FF ∧
    decodeWord 0b100000000000_00110_100_00101_00100_11 = .xori 5 6 0x800 ∧
    decodeWord 0b000000000001_00110_110_00101_00100_11 = .ori 5 6 0x001 ∧
    decodeWord 0b010000000000_00110_111_00101_00100_11 = .andi 5 6 0x400 := by
  refine ⟨?_, ?_, ?_, ?_, ?_, ?_⟩ <;> decide

/-- The shift variant (R34; R124 to R126): the amount sits in [24:20]. -/
theorem test_decode_shift_imm :
    decodeWord 0b0000000_00011_00110_001_00101_00100_11 = .slli 5 6 3 ∧
    decodeWord 0b0000000_11111_00110_101_00101_00100_11 = .srli 5 6 31 ∧
    decodeWord 0b0100000_10000_00110_101_00101_00100_11 = .srai 5 6 16 := by
  refine ⟨?_, ?_, ?_⟩ <;> decide

/-- R layout (R32; R127 to R136). -/
theorem test_decode_op_reg :
    decodeWord 0b0000000_00010_00001_000_00011_01100_11 = .add 3 1 2 ∧
    decodeWord 0b0100000_00010_00001_000_00011_01100_11 = .sub 3 1 2 ∧
    decodeWord 0b0000000_00010_00001_001_00011_01100_11 = .sll 3 1 2 ∧
    decodeWord 0b0000000_00010_00001_010_00011_01100_11 = .slt 3 1 2 ∧
    decodeWord 0b0000000_00010_00001_011_00011_01100_11 = .sltu 3 1 2 ∧
    decodeWord 0b0000000_00010_00001_100_00011_01100_11 = .xor 3 1 2 ∧
    decodeWord 0b0000000_00010_00001_101_00011_01100_11 = .srl 3 1 2 ∧
    decodeWord 0b0100000_00010_00001_101_00011_01100_11 = .sra 3 1 2 ∧
    decodeWord 0b0000000_00010_00001_110_00011_01100_11 = .or 3 1 2 ∧
    decodeWord 0b0000000_00010_00001_111_00011_01100_11 = .and 3 1 2 := by
  refine ⟨?_, ?_, ?_, ?_, ?_, ?_, ?_, ?_, ?_, ?_⟩ <;> decide

/-- I layout (R137 to R139). -/
theorem test_decode_fence_and_system :
    decodeWord 0b000011111111_00000_000_00000_00011_11 = .fence 0 0 0x0FF ∧
    decodeWord 0b100011111111_00001_000_00010_00011_11 = .fence 2 1 0x8FF ∧
    decodeWord 0b000000000000_00000_000_00000_11100_11 = .ecall ∧
    decodeWord 0b000000000001_00000_000_00000_11100_11 = .ebreak := by
  refine ⟨?_, ?_, ?_, ?_⟩ <;> decide

/-- Words of the nine base classes that no named row matches (R86; R42 (a), (b), (c); R90). -/
theorem test_decode_base_classes :
    decodeWord 0b000100100011_00110_011_00101_00000_11 = .classLoad 3 3 5 6 0x123 ∧
    decodeWord 0b000100100011_00110_010_00101_00000_00 = .classLoad 0 2 5 6 0x123 ∧
    decodeWord 0b0000001_00011_00110_001_00101_00100_11 = .classOpImm 3 1 5 6 0x023 ∧
    decodeWord 0b1100000_00011_00110_101_00101_00100_11 = .classOpImm 3 5 5 6 0xC03 ∧
    decodeWord 0b000000001010_00000_000_00001_00100_10 = .classOpImm 2 0 1 0 0x00A ∧
    decodeWord 0b11111111111111111111_00101_00101_01 = .classAuipc 1 5 0xFFFFF ∧
    decodeWord 0b0000000_00101_00110_011_11111_01000_11 = .classStore 3 3 6 5 0x01F ∧
    decodeWord 0b1111111_00000_00001_111_00000_01100_11 = .classOp 3 0x7F 7 0 1 0 ∧
    decodeWord 0b0100000_00010_00001_111_00011_01100_11 = .classOp 3 0x20 7 3 1 2 ∧
    decodeWord 0b00010010001101000101_00101_01101_00 = .classLui 0 5 0x12345 ∧
    decodeWord 0b0_000000_00010_00001_010_0100_0_11000_11 = .classBranch 3 2 1 2 0x0008 ∧
    decodeWord 0b111111111100_00101_001_00001_11001_11 = .classJalr 3 1 1 5 0xFFC ∧
    decodeWord 0b0_0000000100_0_00000000_00001_11011_00 = .classJal 0 1 0x000008 := by
  refine ⟨?_, ?_, ?_, ?_, ?_, ?_, ?_, ?_, ?_, ?_, ?_, ?_, ?_⟩ <;> decide

/-- Words of the two open classes that no named row matches (R88): `fence.i`, a CSR word, `mret`. -/
theorem test_decode_open_classes :
    decodeWord 0b000000000000_00000_001_00000_00011_11 = .classMiscMem 3 1 0 0 0x000 ∧
    decodeWord 0b110000000000_00000_010_00101_11100_11 = .classSystem 3 2 5 0 0xC00 ∧
    decodeWord 0b001100000010_00000_000_00000_11100_11 = .classSystem 3 0 0 0 0x302 ∧
    decodeWord 0b000000000001_00000_000_00000_11100_00 = .classSystem 0 0 0 0 0x001 := by
  refine ⟨?_, ?_, ?_, ?_⟩ <;> decide

/-- The classes that no table holds, opcode values 0x01 to 0x0F (R89). -/
theorem test_decode_unknown_low :
    decodeWord 0b1111111111111111111111111_00001_11 = .classUnknown01 3 0x1FFFFFF ∧
    decodeWord 0b0000000000000000000000001_00010_10 = .classUnknown02 2 0x0000001 ∧
    decodeWord 0b1000000000000000000000000_00110_01 = .classUnknown06 1 0x1000000 ∧
    decodeWord 0b0101010101010101010101010_00111_00 = .classUnknown07 0 0x0AAAAAA ∧
    decodeWord 0b1111111111111111111111111_01001_11 = .classUnknown09 3 0x1FFFFFF ∧
    decodeWord 0b0000000000000000000000001_01010_10 = .classUnknown0A 2 0x0000001 ∧
    decodeWord 0b1000000000000000000000000_01011_01 = .classUnknown0B 1 0x1000000 ∧
    decodeWord 0b0101010101010101010101010_01110_00 = .classUnknown0E 0 0x0AAAAAA ∧
    decodeWord 0b1111111111111111111111111_01111_11 = .classUnknown0F 3 0x1FFFFFF := by
  refine ⟨?_, ?_, ?_, ?_, ?_, ?_, ?_, ?_, ?_⟩ <;> decide

/-- The classes that no table holds, opcode values 0x10 to 0x1F (R89). -/
theorem test_decode_unknown_high :
    decodeWord 0b1111111111111111111111111_10000_11 = .classUnknown10 3 0x1FFFFFF ∧
    decodeWord 0b0000000000000000000000001_10001_10 = .classUnknown11 2 0x0000001 ∧
    decodeWord 0b1000000000000000000000000_10010_01 = .classUnknown12 1 0x1000000 ∧
    decodeWord 0b0101010101010101010101010_10011_00 = .classUnknown13 0 0x0AAAAAA ∧
    decodeWord 0b1111111111111111111111111_10100_11 = .classUnknown14 3 0x1FFFFFF ∧
    decodeWord 0b0000000000000000000000001_10101_10 = .classUnknown15 2 0x0000001 ∧
    decodeWord 0b1000000000000000000000000_10110_01 = .classUnknown16 1 0x1000000 ∧
    decodeWord 0b0101010101010101010101010_10111_00 = .classUnknown17 0 0x0AAAAAA ∧
    decodeWord 0b1111111111111111111111111_11010_11 = .classUnknown1A 3 0x1FFFFFF ∧
    decodeWord 0b0000000000000000000000001_11101_10 = .classUnknown1D 2 0x0000001 ∧
    decodeWord 0b1000000000000000000000000_11110_01 = .classUnknown1E 1 0x1000000 ∧
    decodeWord 0b0101010101010101010101010_11111_00 = .classUnknown1F 0 0x0AAAAAA := by
  refine ⟨?_, ?_, ?_, ?_, ?_, ?_, ?_, ?_, ?_, ?_, ?_, ?_⟩ <;> decide

/-- Fewer than four bytes are no word; four are, little-endian (R22, R30), and the rest is left. -/
theorem test_decode_bytes :
    decodeBytes [0x93, 0x00, 0xA0] = .error (.truncated 3) ∧
    decodeBytes [0x93, 0x00, 0xA0, 0x00, 0x13] = .ok (.addi 1 0 0x00A, [0x13]) := by decide

/-- The table numbering: a named row, a class row, a number of more than 32 bits of which only the low `nbits` count. -/
theorem test_decode_table_word :
    decodeTableWord 32 0x00000073 = some .ecall ∧ decodeTableWord 32 0x0000007C = some (.classUnknown1F 0 0) ∧
    decodeTableWord 32 0x00000003 = some (.lb 0 0 0) ∧ decodeTableWord 8 0x1FF = some (.classUnknown1F 3 1) := by decide

/-! ### The components on the spec's vectors -/

/-- 40_field_extractor.md: every accessor on `0xFF010113`. -/
theorem test_fields :
    [(Fields.opcode 0xFF010113).toNat, (Fields.rd 0xFF010113).toNat, (Fields.funct3 0xFF010113).toNat, (Fields.rs1 0xFF010113).toNat,
      (Fields.rs2 0xFF010113).toNat, (Fields.funct7 0xFF010113).toNat, (Fields.imm110 0xFF010113).toNat, (Fields.imm3112 0xFF010113).toNat]
      = [0x04, 2, 0, 2, 16, 0x7F, 0xFF0, 0xFF010] := by decide

/-- 41_sign_extender.md R60, R61, R63: the worked example, high bits, the corners, width 1. -/
theorem test_sign_extend :
    [signExtend 0xFF0 12, signExtend 0x1FF0 12, signExtend 0 12, signExtend 0x800 12, signExtend 0x7FF 12, signExtend 0xFFF 12, signExtend 2 1,
      signExtend 3 1] = [-16, -16, 0, -2048, 2047, -1, 0, -1] := by decide

/-- 42_immediate_assemblers.md: the worked examples of R65 to R69. -/
theorem test_immediates :
    [immI 0x00A00093, immI 0xFF010113, immS 0xFE532E23, immB 0x00208463, immB 0xFE208CE3, immU 0x123452B7, immU 0xDEADB2B7, immJ 0x008000EF,
      immJ 0xFF9FF0EF] = [10, -16, -4, 8, -8, 74565, -136485, 8, -8] := by decide

/-! ### Single steps on the spec's vectors -/

/-- 95_test_vectors.md section 7.5, the all-ones word: the error on the ports, the taps valid. -/
theorem test_ports_all_ones : portsAfter (on 0xFFFFFFFF) = some
    { opcode_o := 0x1F, rd_o := 31, funct3_o := 7, rs1_o := 31, rs2_o := 31, funct7_o := 0x7F, imm110_o := 0xFFF, imm3112_o := 0xFFFFF
      err_o := 1, fmt_o := 7, nargs_o := 0, arg0_kind_o := 0, arg1_kind_o := 0, arg2_kind_o := 0
      arg0_val_o := 0, arg1_val_o := 0, arg2_val_o := 0 } := by decide

/-- 95_test_vectors.md section 7.5, `ecall` under the default parameter. -/
theorem test_ports_ecall : portsAfter (on 0x00000073) = some
    { opcode_o := 0x1C, rd_o := 0, funct3_o := 0, rs1_o := 0, rs2_o := 0, funct7_o := 0, imm110_o := 0, imm3112_o := 0
      err_o := 1, fmt_o := 7, nargs_o := 0, arg0_kind_o := 0, arg1_kind_o := 0, arg2_kind_o := 0
      arg0_val_o := 0, arg1_val_o := 0, arg2_val_o := 0 } := by decide

/-- 95_test_vectors.md section 7.5, `addi x2, x2, -16`: a negative immediate on its port. -/
theorem test_ports_addi : portsAfter (on 0xFF010113) = some
    { opcode_o := 0x04, rd_o := 2, funct3_o := 0, rs1_o := 2, rs2_o := 16, funct7_o := 0x7F, imm110_o := 0xFF0, imm3112_o := 0xFF010
      err_o := 0, fmt_o := 2, nargs_o := 3, arg0_kind_o := 1, arg1_kind_o := 1, arg2_kind_o := 2
      arg0_val_o := 2, arg1_val_o := 2, arg2_val_o := 0xFFFFFFF0 } := by decide

/-- 95_test_vectors.md section 7.5, `slli x5, x6, 3`: a shift amount. -/
theorem test_ports_slli : portsAfter (on 0x00331293) = some
    { opcode_o := 0x04, rd_o := 5, funct3_o := 1, rs1_o := 6, rs2_o := 3, funct7_o := 0, imm110_o := 0x003, imm3112_o := 0x00331
      err_o := 0, fmt_o := 2, nargs_o := 3, arg0_kind_o := 1, arg1_kind_o := 1, arg2_kind_o := 3
      arg0_val_o := 5, arg1_val_o := 6, arg2_val_o := 3 } := by decide

/-- 95_test_vectors.md section 7.5, `lui x5, 0xFFFFF`: two operands, nothing in the third position. -/
theorem test_ports_lui : portsAfter (on 0xFFFFF2B7) = some
    { opcode_o := 0x0D, rd_o := 5, funct3_o := 7, rs1_o := 31, rs2_o := 31, funct7_o := 0x7F, imm110_o := 0xFFF, imm3112_o := 0xFFFFF
      err_o := 0, fmt_o := 5, nargs_o := 2, arg0_kind_o := 1, arg1_kind_o := 2, arg2_kind_o := 0
      arg0_val_o := 5, arg1_val_o := 0xFFFFFFFF, arg2_val_o := 0 } := by decide

/-- 95_test_vectors.md section 7.5, `beq x1, x2, -8`: the rd position holds immediate bits. -/
theorem test_ports_beq : portsAfter (on 0xFE208CE3) = some
    { opcode_o := 0x18, rd_o := 25, funct3_o := 0, rs1_o := 1, rs2_o := 2, funct7_o := 0x7F, imm110_o := 0xFE2, imm3112_o := 0xFE208
      err_o := 0, fmt_o := 4, nargs_o := 3, arg0_kind_o := 1, arg1_kind_o := 1, arg2_kind_o := 2
      arg0_val_o := 1, arg1_val_o := 2, arg2_val_o := 0xFFFFFFF8 } := by decide

/-- 95_test_vectors.md section 8.2, one word of each of the formats S, I and ISH, and section 8.3, of U, I and J. -/
theorem test_results_of_programs :
    [0x00112623, 0x00C12083, 0x01010413, 0x800005B7, 0xFFC500E7, 0x8000006F].map (fun w => resultAfter (on w)) =
    [some (.ok .S [.reg 2, .reg 1, .imm 12]), some (.ok .I [.reg 1, .reg 2, .imm 12]), some (.ok .ISH [.reg 8, .reg 2, .imm 16]),
     some (.ok .U [.reg 11, .imm (-524288)]), some (.ok .I [.reg 1, .reg 10, .imm (-4)]), some (.ok .J [.reg 0, .imm (-1048576)])] := by decide

/-- 95_test_vectors.md sections 8.4 and 8.5: the same words without and with the open keys. -/
theorem test_results_of_open_words :
    [0x0FF0000F, 0x00000073, 0x00100073, 0xFFFFFFFF, 0x00000000].map (fun w => resultAfter (on w)) =
    [some (.unknownOpcode 0x03), some (.unknownOpcode 0x1C), some (.unknownOpcode 0x1C), some (.unknownOpcode 0x1F),
     some (.ok .I [.reg 0, .reg 0, .imm 0])] ∧
    [0x0FF0000F, 0x00000073, 0x00100073, 0xFFFFFFFF, 0x00000000].map (fun w => resultAfter (onWithKeys w)) =
    [some (.ok .I [.reg 0, .reg 0, .imm 255]), some (.ok .I [.reg 0, .reg 0, .imm 0]), some (.ok .I [.reg 0, .reg 0, .imm 1]),
     some (.unknownOpcode 0x1F), some (.ok .I [.reg 0, .reg 0, .imm 0])] := by decide

/-- 95_test_vectors.md section 8.4, three of its words through one instance: a rejected word leaves the next one alone. -/
theorem test_feed : feed [0x00100293, 0x00000073, 0x005282B3] State.reset =
    [some (.ok .ISH [.reg 5, .reg 0, .imm 1]), some (.unknownOpcode 0x1C), some (.ok .R [.reg 5, .reg 5, .reg 5])] := by decide

/-- R15: the named view of `slli x5, x6, 3`, the amount as an integer; an error has none. -/
theorem test_named_view :
    (Result.ok .ISH [.reg 5, .reg 6, .shamt 3]).namedView RegNames.default = some [.name "x5", .name "x6", .int 3] ∧
    (Result.unknownOpcode 0x1C).namedView RegNames.default = none := by decide

/-- The word placed by `withFetchWord` is the one the next step shows (log 8). -/
theorem test_with_fetch_word :
    resultAfter (State.reset.withFetchWord 32 0x402081B3) = some (.ok .R [.reg 3, .reg 1, .reg 2]) ∧
    resultAfter (State.reset.withFetchWord 32 0x00000007) = some (.unknownOpcode 0x01) := by decide

/-! ### Witnesses: values that meet the hypotheses of each statement, clause by clause, at the edges of their ranges -/

theorem witness_StepRunsTheDecodedInstruction :
    (on 0x00A00093).instr_i = wordOfBytes 0x93 0x00 0xA0 0x00 ∧
    decodeBytes [0x93, 0x00, 0xA0, 0x00, 0xFF] = .ok (.addi 1 0 0x00A, [0xFF]) ∧
    decodeWord (on 0xFFFFFFFF).instr_i = .classUnknown1F 3 0x1FFFFFF := by decide

theorem witness_DecodeOfEncodeIsTheInstruction :
    (Instr.jal 31 0x100000).wf = true ∧ (Instr.beq 31 31 0x1FFE).wf = true ∧ (Instr.classSystem 3 7 31 31 0xFFF).wf = true := by decide

theorem witness_MaskAndMatchPickTheRow :
    (0xFFFFFFB7 &&& 0x7F : Word) = 0x37 ∧ decodeWord 0xFFFFFFB7 = .lui 31 0xFFFFF ∧
    (0x41FFDF93 &&& 0xFE00707F : Word) = 0x40005013 ∧ decodeWord 0x41FFDF93 = .srai 31 31 31 := by decide

theorem witness_FunctFieldsPickTheRow :
    (0xFE007FE3 &&& 0x707F : Word) = 0x7063 ∧ decodeWord 0xFE007FE3 = .bgeu 0 0 0x1FFE ∧
    (0x41FFDFB3 &&& 0xFE00707F : Word) = 0x40005033 ∧ decodeWord 0x41FFDFB3 = .sra 31 31 31 := by decide

theorem witness_EachOpcodeValueShowsItsResult :
    [0x00000003, 0x00000013, 0x00000017, 0x00000023, 0x00000033, 0x00000037, 0x00000063, 0x00000067, 0x0000006F].map (fun w => Fields.opcode (on w).instr_i)
      = [0x00, 0x04, 0x05, 0x08, 0x0C, 0x0D, 0x18, 0x19, 0x1B] ∧
    (Fields.opcode (onWithKeys 0x0000000F).instr_i = 0x03 ∧ (onWithKeys 0x0000000F).params.dispatchExtra.miscMem = true) ∧
    (Fields.opcode (onWithKeys 0x00000073).instr_i = 0x1C ∧ (onWithKeys 0x00000073).params.dispatchExtra.system = true) ∧
    ¬ Claims.InK (on 0x0000000F).params.dispatchExtra (Fields.opcode (on 0x0000000F).instr_i) ∧
    ¬ Claims.InK (onWithKeys 0xFFFFFFFF).params.dispatchExtra (Fields.opcode (onWithKeys 0xFFFFFFFF).instr_i) := by
  unfold Claims.InK
  decide

theorem witness_OpenKeysFollowTheParameter :
    Fields.opcode (on 0x0FF0000F).instr_i = 0x03 ∧ Fields.opcode (on 0x00000073).instr_i = 0x1C ∧
    (onWithKeys 0).params.dispatchExtra.system = true ∧ (on 0).params.dispatchExtra = DispatchExtra.none := by decide

theorem witness_VerdictDependsOnTheKeySet :
    ¬ Claims.InK { miscMem := true, system := true } (Fields.opcode (maskInput 0x1FFFFFFFF)) ∧
    ¬ Claims.InK DispatchExtra.none (Fields.opcode (maskInput 0x0000100F)) := by
  unfold Claims.InK
  decide

theorem witness_OverWideInputIsMasked : 2 ^ 32 - 1 < 2 ^ 32 ∧ (maskInput (2 ^ 32 - 1)).toNat = 2 ^ 32 - 1 := by decide

theorem witness_LowBitsAreNotExamined :
    (0x00A00090 : Word) >>> 2 = (on 0x00A00093).instr_i >>> 2 ∧ (0xFFFFFFFC : Word) >>> 2 = (on 0xFFFFFFFF).instr_i >>> 2 := by decide

theorem witness_FunctFieldsAreNotValidated :
    (Fields.opcode 0xFE00F033 = Fields.opcode 0x00008033) ∧
    (Fields.opcode 0xFE00F033 = 0x0C ∧ (0xFE00F033 &&& 0x01FF8FFF : Word) = 0x00008033 &&& 0x01FF8FFF) ∧
    ([0x00007003, 0x00007023, 0x00007063, 0x00007067].map (fun w : Word => (Fields.opcode w, w &&& 0xFFFF8FFF)) =
      [(0x00, (0x00001003 : Word) &&& 0xFFFF8FFF), (0x08, 0x00001023 &&& 0xFFFF8FFF), (0x18, 0x00001063 &&& 0xFFFF8FFF),
       (0x19, 0x00001067 &&& 0xFFFF8FFF)]) := by decide

theorem witness_OutputsDependOnTheInputAlone :
    (on 0).instr_i = ({ on 0 with out := Claims.rejected 0 0 0 0 0 0 } : State).instr_i ∧
    (on 0).params.dispatchExtra = ({ on 0 with out := Claims.rejected 0 0 0 0 0 0 } : State).params.dispatchExtra ∧
    step State.reset = .next State.reset := ⟨rfl, rfl, rfl⟩

/-- For the statements whose hypothesis is that a step answered: one accepted and one rejected word. -/
theorem witness_step_answers :
    step (on 0x00000003) = .next { on 0x00000003 with out := Ports.ofZeroWord } ∧
    step (on 0x0000007F) = .next { on 0x0000007F with out := Claims.rejected 0x1F 0 0 0 0 0 } := ⟨rfl, rfl⟩

theorem witness_RejectedWordLeavesNoTrace :
    step (on 0x0000007F) = .next { on 0x0000007F with out := Claims.rejected 0x1F 0 0 0 0 0 } ∧
    State.Rejected { on 0x0000007F with out := Claims.rejected 0x1F 0 0 0 0 0 } := ⟨rfl, rfl⟩

theorem witness_AccessorsAreExactMasks : (0x80000000 : Word).getLsbD 31 = true ∧ 2048 ≤ (Fields.imm110 0x80000000).toNat := by decide

theorem witness_FlippingAWordBitFlipsOneFieldBit : 0 < 32 ∧ 31 < 32 := by decide

/-- The least width and the value at each corner of the range (R60, R62). -/
theorem witness_sign_extend :
    (1 ≤ 1 ∧ 1 < 2 ^ 1) ∧ (1 ≤ 32 ∧ 2 ^ 32 - 1 < 2 ^ 32) ∧
    (-2 ^ (1 - 1) ≤ (-1 : Int) ∧ (-1 : Int) ≤ 2 ^ (1 - 1) - 1) ∧
    (-2 ^ (12 - 1) ≤ (2047 : Int) ∧ (2047 : Int) ≤ 2 ^ (12 - 1) - 1) ∧ (32 ≤ 32 ∧ 32 - 1 ≤ 31 ∧ 31 < 32) := by decide

theorem witness_ImmediatesISU :
    [Fields.imm110 0x000FFFFF, Fields.imm110 0x7FFFFFFF, Fields.imm110 0x800FFFFF, Fields.imm110 0xFFFFFFFF] = [0x000, 0x7FF, 0x800, 0xFFF] ∧
    [(Fields.funct7 0x80000000, Fields.rd 0x80000000), (Fields.funct7 0x7E000F80, Fields.rd 0x7E000F80), (Fields.funct7 0xFE000F80, Fields.rd 0xFE000F80),
      (Fields.funct7 0x00000F80, Fields.rd 0x00000F80), (Fields.funct7 0x02000000, Fields.rd 0x02000000)]
      = [(0x40, 0), (0x3F, 31), (0x7F, 31), (0, 31), (1, 0)] ∧
    (Fields.imm3112 0x80000FFF = 0x80000 ∧ Fields.imm3112 0xFFFFF000 = 0xFFFFF ∧ (0x80000FFF : Word).getLsbD 31 = true) ∧
    (0xFFFFFFFF &&& 0xFFF00000 : Word) = 0xFFF00000 &&& 0xFFF00000 ∧ (0x01FFF07F &&& 0xFE000F80 : Word) = 0 &&& 0xFE000F80 ∧
    (0x00000FFF &&& 0xFFFFF000 : Word) = 0 &&& 0xFFFFF000 := by decide

theorem witness_ImmediateB :
    [0x81FFF07F, 0x01FFF0FF, 0x01FFF17F, 0x03FFF07F, 0x01FFF07F].map (fun w : Word => w &&& 0xFE000F80) =
      [0x80000000, 0x00000080, 0x00000100, 0x02000000, 0] ∧
    (-4096 ≤ (-4096 : Int) ∧ (-4096 : Int) % 2 = 0) ∧ ((4094 : Int) ≤ 4094 ∧ (4094 : Int) % 2 = 0) := by decide

theorem witness_ImmediateJ :
    [0x80000FFF, 0x00200FFF, 0x00100FFF, 0x00001FFF, 0x00080FFF].map (fun w : Word => w &&& 0xFFFFF000) =
      [0x80000000, 0x00200000, 0x00100000, 0x00001000, 0x00080000] ∧
    (-1048576 ≤ (-1048576 : Int) ∧ (-1048576 : Int) % 2 = 0) ∧ ((1048574 : Int) ≤ 1048574 ∧ (1048574 : Int) % 2 = 0) := by decide

/-- A bit number for each clause of the bit map, at both ends of its run. -/
theorem witness_ImmediateBitMap :
    (0 ≤ 11 ∧ 11 ≤ 11) ∧ (0 ≤ 4 ∧ 4 ≤ 4) ∧ (5 ≤ 5 ∧ 11 ≤ 11) ∧ (12 ≤ 12 ∧ 31 < 32) ∧ (1 ≤ 1 ∧ 4 ≤ 4) ∧ (5 ≤ 5 ∧ 10 ≤ 10) ∧ (0 ≤ 19 ∧ 19 ≤ 19) ∧
    (20 ≤ 20 ∧ 31 < 32) ∧ (1 ≤ 1 ∧ 10 ≤ 10) ∧ (12 ≤ 12 ∧ 19 ≤ 19) := by decide

theorem witness_ImmediateSignAndInjectivity :
    immI 0xFFF00000 = immI 0xFFFFFFFF ∧ immS 0xFE000F80 = immS 0xFFFFFFFF ∧ immB 0xFE000F80 = immB 0xFFFFFFFF ∧ immU 0xFFFFF000 = immU 0xFFFFFFFF ∧
    immJ 0xFFFFF000 = immJ 0xFFFFFFFF := by decide

theorem witness_ShiftAmountIsTheRawRs2Field :
    Fields.opcode (on 0x41F35293).instr_i = 0x04 ∧ Fields.funct3 (on 0x41F35293).instr_i = 5 ∧
    (0x01F35293 &&& 0x01FFFFFF : Word) = (on 0x41F35293).instr_i &&& 0x01FFFFFF ∧ Fields.funct3 0x00331293 = 1 ∧
    (Fields.opcode (on 0xFF010113).instr_i = 0x04 ∧ Fields.funct3 (on 0xFF010113).instr_i ≠ 1 ∧ Fields.funct3 (on 0xFF010113).instr_i ≠ 5) ∧
    ((portsAfter (on 0x41F35293)).map (·.arg2_kind_o) = some 3 ∧ (portsAfter (on 0xFF010113)).map (·.arg2_kind_o) = some 2) := by decide

theorem witness_ResultOnThePorts :
    [0x00000003, 0x00000013, 0x00000017, 0x00000023, 0x00000033, 0x00000037, 0x00000063, 0x00000067, 0x0000006F].map (fun w => Fields.opcode (on w).instr_i)
      = [0x00, 0x04, 0x05, 0x08, 0x0C, 0x0D, 0x18, 0x19, 0x1B] ∧
    (Fields.opcode (onWithKeys 0x0000000F).instr_i = 0x03 ∧ (onWithKeys 0x0000000F).params.dispatchExtra.miscMem = true) ∧
    (Fields.opcode (onWithKeys 0x00000073).instr_i = 0x1C ∧ (onWithKeys 0x00000073).params.dispatchExtra.system = true) ∧
    Claims.InK (onWithKeys 0x0000000F).params.dispatchExtra (Fields.opcode (onWithKeys 0x0000000F).instr_i) ∧
    ¬ Claims.InK (on 0x0000000F).params.dispatchExtra (Fields.opcode (on 0x0000000F).instr_i) := by
  unfold Claims.InK
  decide

theorem witness_UnknownOpcodeOnThePorts :
    (portsAfter (on 0xFFFFFFFF)).map (·.err_o) = some 1 ∧ (on 0x00000073).params.dispatchExtra = DispatchExtra.none := by decide

theorem witness_NamedViewUsesTheNameTable : (on 0x00A00093).params.regname = RegNames.default := rfl

theorem witness_UpperAndJumpWords :
    ((on 0xFFFFFFB7).instr_i &&& 0x7F = 0x37) ∧ ((on 0x00000017).instr_i &&& 0x7F = 0x17) ∧ ((on 0xFFFFFFEF).instr_i &&& 0x7F = 0x6F) ∧
    ((on 0xFFFF8FE7).instr_i &&& 0x707F = 0x67) ∧ ((on 0xFFFFFFE7).instr_i &&& 0x7F = 0x67) ∧ 0x80000 ≤ (0x80000037 : Word).toNat >>> 12 := by decide

theorem witness_UpperImmediateIsNotShifted :
    Fields.opcode (on 0xFFFFF2B7).instr_i = 0x0D ∧ Fields.opcode (on 0xFFFFF297).instr_i = 0x05 := by decide

theorem witness_BranchWords :
    [0xFFFF8FE3, 0x00001063, 0x00004063, 0x00005063, 0x00006063, 0xFFFFFFE3].map (fun w => (on w).instr_i &&& 0x707F)
      = [0x0063, 0x1063, 0x4063, 0x5063, 0x6063, 0x7063] ∧ (on 0x00002063).instr_i &&& 0x7F = 0x63 ∧ (0x01FFF07F &&& 0xFE000F80 : Word) = 0 := by decide

theorem witness_LoadWords :
    [0xFFFF8F83, 0x00001003, 0x00002003, 0x00004003, 0x00005003].map (fun w => (on w).instr_i &&& 0x707F) = [0x0003, 0x1003, 0x2003, 0x4003, 0x5003] ∧
    (on 0x00007003).instr_i &&& 0x7F = 0x03 := by decide

theorem witness_StoreWords :
    [0xFFFF8FA3, 0x00001023, 0x00002023].map (fun w => (on w).instr_i &&& 0x707F) = [0x0023, 0x1023, 0x2023] ∧ (on 0x00007023).instr_i &&& 0x7F = 0x23 := by
  decide

theorem witness_OpImmWords :
    [0xFFFF8F93, 0x00002013, 0x00003013, 0x00004013, 0x00006013, 0x00007013].map (fun w => (on w).instr_i &&& 0x707F)
      = [0x0013, 0x2013, 0x3013, 0x4013, 0x6013, 0x7013] := by decide

theorem witness_ShiftImmWords :
    [0x01FF9F93, 0x00005013, 0x41FFDF93].map (fun w => (on w).instr_i &&& 0xFE00707F) = [0x00001013, 0x00005013, 0x40005013] ∧
    [0xFE001013, 0xFE005013].map (fun w => (on w).instr_i &&& 0x707F) = [0x1013, 0x5013] := by decide

theorem witness_OpRegWords :
    [0x01FF8FB3, 0x40000033, 0x00001033, 0x00002033, 0x00003033, 0x00004033, 0x00005033, 0x41FFDFB3, 0x00006033, 0x00007033].map
        (fun w => (on w).instr_i &&& 0xFE00707F)
      = [0x00000033, 0x40000033, 0x00001033, 0x00002033, 0x00003033, 0x00004033, 0x00005033, 0x40005033, 0x00006033, 0x00007033] ∧
    (on 0xFE00F033).instr_i &&& 0x7F = 0x33 := by decide

theorem witness_FenceAndSystemWords :
    (on 0x0FF0000F).instr_i &&& 0x7F = 0x0F ∧ (on 0x00100073).instr_i &&& 0x7F = 0x73 ∧
    (on 0).params.dispatchExtra.miscMem = false ∧ (onWithKeys 0).params.dispatchExtra.miscMem = true ∧
    (on 0).params.dispatchExtra.system = false ∧ (onWithKeys 0).params.dispatchExtra.system = true := by decide

end Sys2Proof.Tests
end

section
/-! The encoder undoes the decoder: the word of the row that a word belongs to is the word, and the row is well formed. -/

namespace Sys2Proof

open Machine

/-! ### The layouts are inverse to the fields of a word -/

section
variable (w : Word)

@[simp] theorem extractLsb'_patI_funct7 : (patI w).extractLsb' 5 7 = Fields.funct7 w := by
  rw [patI, Fields.imm110_eq]
  exact BitVec.extractLsb'_append_eq_left

@[simp] theorem extractLsb'_patI_rs2 : (patI w).extractLsb' 0 5 = Fields.rs2 w := by
  rw [patI, Fields.imm110_eq]
  exact BitVec.extractLsb'_append_eq_right

@[simp] theorem evenImm_patB : evenImm (patB w) = true := by
  simp only [evenImm, patB, BitVec.getLsbD_append]
  rfl

@[simp] theorem evenImm_patJ : evenImm (patJ w) = true := by
  simp only [evenImm, patJ, BitVec.getLsbD_append]
  rfl

variable {w} {low : BitVec 2} {op : BitVec 5} {f3 : BitVec 3}

theorem encR_fields {f7 : BitVec 7} (hl : Fields.low w = low) (ho : Fields.opcode w = op) (h7 : Fields.funct7 w = f7)
    (h3 : Fields.funct3 w = f3) : encR low op f7 f3 (Fields.rd w) (Fields.rs1 w) (Fields.rs2 w) = w := by
  subst hl ho h7 h3
  exact Fields.join_fields w

theorem encI_fields (hl : Fields.low w = low) (ho : Fields.opcode w = op) (h3 : Fields.funct3 w = f3) :
    encI low op f3 (Fields.rd w) (Fields.rs1 w) (patI w) = w := by
  rw [encI, extractLsb'_patI_funct7, extractLsb'_patI_rs2]
  exact encR_fields hl ho rfl h3

theorem encS_fields (hl : Fields.low w = low) (ho : Fields.opcode w = op) (h3 : Fields.funct3 w = f3) :
    encS low op f3 (Fields.rs1 w) (Fields.rs2 w) (patS w) = w := by
  rw [encS, patS, BitVec.extractLsb'_append_eq_left, BitVec.extractLsb'_append_eq_right]
  exact encR_fields hl ho rfl h3

theorem encB_fields (hl : Fields.low w = low) (ho : Fields.opcode w = op) (h3 : Fields.funct3 w = f3) :
    encB low op f3 (Fields.rs1 w) (Fields.rs2 w) (patB w) = w := by
  have hf7 : (patB w).extractLsb' 12 1 ++ (patB w).extractLsb' 5 6 = Fields.funct7 w := by
    apply BitVec.eq_of_getLsbD_eq
    intro i hi
    simp only [patB, BitVec.getLsbD_append, BitVec.getLsbD_extractLsb']
    interval_cases i <;> simp
  have hrd : (patB w).extractLsb' 1 4 ++ (patB w).extractLsb' 11 1 = Fields.rd w := by
    apply BitVec.eq_of_getLsbD_eq
    intro i hi
    simp only [patB, BitVec.getLsbD_append, BitVec.getLsbD_extractLsb']
    interval_cases i <;> simp
  rw [encB, hf7, hrd]
  exact encR_fields hl ho rfl h3

theorem encU_fields (hl : Fields.low w = low) (ho : Fields.opcode w = op) :
    encU low op (Fields.rd w) (patU w) = w := by
  subst hl ho
  apply BitVec.eq_of_getLsbD_eq
  intro i hi
  rw [encU, Fields.getLsbD_join]
  simp only [patU, Fields.imm3112, Fields.rd, Fields.opcode, Fields.low, BitVec.getLsbD_extractLsb']
  split_ifs <;> (repeat rw [decide_eq_true (by omega), Bool.true_and]) <;> (congr 1; omega)

theorem encJ_fields (hl : Fields.low w = low) (ho : Fields.opcode w = op) :
    encJ low op (Fields.rd w) (patJ w) = w := by
  have hpat : (patJ w).extractLsb' 20 1 ++ (patJ w).extractLsb' 1 10 ++ (patJ w).extractLsb' 11 1 ++ (patJ w).extractLsb' 12 8
      = patU w := by
    apply BitVec.eq_of_getLsbD_eq
    intro i hi
    simp only [patJ, patU, BitVec.getLsbD_append, BitVec.getLsbD_extractLsb']
    interval_cases i <;> simp
  rw [encJ, hpat]
  exact encU_fields hl ho

theorem encRest_fields (hl : Fields.low w = low) (ho : Fields.opcode w = op) : encRest low op (patRest w) = w := by
  subst hl ho
  apply BitVec.eq_of_getLsbD_eq
  intro i hi
  rw [getLsbD_encRest]
  simp only [patRest, Fields.opcode, Fields.low, BitVec.getLsbD_extractLsb']
  split_ifs <;> (rw [decide_eq_true (by omega), Bool.true_and]; congr 1; omega)

end

/-! ### Class by class: the row of a word is well formed, and its encoding is the word -/

theorem funct3_cases : ∀ f3 : BitVec 3, f3 = 0 ∨ f3 = 1 ∨ f3 = 2 ∨ f3 = 3 ∨ f3 = 4 ∨ f3 = 5 ∨ f3 = 6 ∨ f3 = 7 := by
  decide

section
variable {w : Word}

theorem decodeLoad_isRow (h : Fields.opcode w = 0x00) : (decodeLoad w).wf = true ∧ encode (decodeLoad w) = w := by
  unfold decodeLoad
  split
  · split <;> simp_all [Instr.wf, namedLoad, encode, encI_fields]
  · simp_all [Instr.wf, namedLoad, encode, encI_fields]

theorem decodeOpImm_isRow (h : Fields.opcode w = 0x04) : (decodeOpImm w).wf = true ∧ encode (decodeOpImm w) = w := by
  unfold decodeOpImm
  split
  · split
    case h_7 => split_ifs <;> simp_all [Instr.wf, namedOpImm, encode, encI_fields, encR_fields]
    case h_8 =>
      have h5 : Fields.funct3 w = 5 := by
        have h3 := funct3_cases (Fields.funct3 w)
        simp_all
      split_ifs <;> simp_all [Instr.wf, namedOpImm, encode, encI_fields, encR_fields]
    all_goals simp_all [Instr.wf, encode, encI_fields]
  · simp_all [Instr.wf, namedOpImm, encode, encI_fields]

theorem decodeStore_isRow (h : Fields.opcode w = 0x08) : (decodeStore w).wf = true ∧ encode (decodeStore w) = w := by
  unfold decodeStore
  split
  · split <;> simp_all [Instr.wf, namedStore, encode, encS_fields]
  · simp_all [Instr.wf, namedStore, encode, encS_fields]

theorem decodeOp_isRow (h : Fields.opcode w = 0x0C) : (decodeOp w).wf = true ∧ encode (decodeOp w) = w := by
  unfold decodeOp
  dsimp only
  split_ifs
  · split
    case h_8 =>
      have h7 : Fields.funct3 w = 7 := by
        have h3 := funct3_cases (Fields.funct3 w)
        simp_all
      simp_all [Instr.wf, encode, encR_fields]
    all_goals simp_all [Instr.wf, encode, encR_fields]
  · split <;> simp_all [Instr.wf, namedOp, encode, encR_fields]
  all_goals simp_all [Instr.wf, namedOp, encode, encR_fields]

theorem decodeBranch_isRow (h : Fields.opcode w = 0x18) : (decodeBranch w).wf = true ∧ encode (decodeBranch w) = w := by
  unfold decodeBranch
  split
  · split
    case h_7 =>
      have h23 : Fields.funct3 w = 2 ∨ Fields.funct3 w = 3 := by
        have h3 := funct3_cases (Fields.funct3 w)
        simp_all
      simp_all [Instr.wf, namedBranch, encode, encB_fields]
    all_goals simp_all [Instr.wf, encode, encB_fields]
  · simp_all [Instr.wf, namedBranch, encode, encB_fields]

theorem decodeLui_isRow (h : Fields.opcode w = 0x0D) : (decodeLui w).wf = true ∧ encode (decodeLui w) = w := by
  unfold decodeLui
  split <;> simp_all [Instr.wf, encode, encU_fields]

theorem decodeAuipc_isRow (h : Fields.opcode w = 0x05) : (decodeAuipc w).wf = true ∧ encode (decodeAuipc w) = w := by
  unfold decodeAuipc
  split <;> simp_all [Instr.wf, encode, encU_fields]

theorem decodeJal_isRow (h : Fields.opcode w = 0x1B) : (decodeJal w).wf = true ∧ encode (decodeJal w) = w := by
  unfold decodeJal
  split <;> simp_all [Instr.wf, encode, encJ_fields]

theorem decodeJalr_isRow (h : Fields.opcode w = 0x19) : (decodeJalr w).wf = true ∧ encode (decodeJalr w) = w := by
  unfold decodeJalr
  split <;> simp_all [Instr.wf, namedFunct3Zero, encode, encI_fields, ← imp_iff_not_or]

theorem decodeMiscMem_isRow (h : Fields.opcode w = 0x03) : (decodeMiscMem w).wf = true ∧ encode (decodeMiscMem w) = w := by
  unfold decodeMiscMem
  split <;> simp_all [Instr.wf, namedFunct3Zero, encode, encI_fields, ← imp_iff_not_or]

/-- A word of class SYSTEM whose fields are those of ECALL or EBREAK is that word: the two rows fix every bit (R138, R139). -/
theorem namedSystem_fields (h : Fields.opcode w = 0x1C)
    (hn : namedSystem (Fields.low w) (Fields.funct3 w) (Fields.rd w) (Fields.rs1 w) (patI w) = true) :
    w = 0x00000073 ∨ w = 0x00100073 := by
  simp only [namedSystem, Bool.and_eq_true, Bool.or_eq_true, beq_iff_eq] at hn
  obtain ⟨⟨⟨⟨hl, h3⟩, hd⟩, h1⟩, h0 | h0⟩ := hn <;> rw [← encI_fields hl h h3, hd, h1, h0] <;> decide

theorem decodeSystem_isRow (h : Fields.opcode w = 0x1C) : (decodeSystem w).wf = true ∧ encode (decodeSystem w) = w := by
  unfold decodeSystem
  split_ifs with hc hb
  · exact ⟨rfl, hc.symm⟩
  · exact ⟨rfl, hb.symm⟩
  · refine ⟨?_, encI_fields rfl h rfl⟩
    have hn := mt (namedSystem_fields h) (not_or.mpr ⟨hc, hb⟩)
    simpa [Instr.wf] using hn

theorem decodeClass_isRow (c : OpClass) (h : Fields.opcode w = c.key) :
    (decodeClass c w).wf = true ∧ encode (decodeClass c w) = w := by
  cases c
  case load => exact decodeLoad_isRow h
  case opImm => exact decodeOpImm_isRow h
  case auipc => exact decodeAuipc_isRow h
  case store => exact decodeStore_isRow h
  case op => exact decodeOp_isRow h
  case lui => exact decodeLui_isRow h
  case branch => exact decodeBranch_isRow h
  case jalr => exact decodeJalr_isRow h
  case jal => exact decodeJal_isRow h
  case miscMem => exact decodeMiscMem_isRow h
  case system => exact decodeSystem_isRow h
  all_goals exact ⟨rfl, encRest_fields rfl h⟩
end

/-- Every word belongs to a well-formed row. -/
theorem wf_decodeWord (w : Word) : (decodeWord w).wf = true :=
  (decodeClass_isRow _ (OpClass.key_ofField _).symm).1

/-- No bit of a word is lost in the row it belongs to (R58 (c)). -/
@[simp] theorem encode_decodeWord (w : Word) : encode (decodeWord w) = w :=
  (decodeClass_isRow _ (OpClass.key_ofField _).symm).2

end Sys2Proof
end

section
/-! The family EncodedKey over all rows. -/

namespace Sys2Proof.Laws

theorem encodedKey : ∀ i : Instr, EncodedKey.Statement i
  | .lui a b => EncodedKey.lui a b | .auipc a b => EncodedKey.auipc a b | .jal a b => EncodedKey.jal a b | .jalr a b c => EncodedKey.jalr a b c
  | .beq a b c => EncodedKey.beq a b c | .bne a b c => EncodedKey.bne a b c | .blt a b c => EncodedKey.blt a b c | .bge a b c => EncodedKey.bge a b c
  | .bltu a b c => EncodedKey.bltu a b c | .bgeu a b c => EncodedKey.bgeu a b c | .lb a b c => EncodedKey.lb a b c | .lh a b c => EncodedKey.lh a b c
  | .lw a b c => EncodedKey.lw a b c | .lbu a b c => EncodedKey.lbu a b c | .lhu a b c => EncodedKey.lhu a b c | .sb a b c => EncodedKey.sb a b c
  | .sh a b c => EncodedKey.sh a b c | .sw a b c => EncodedKey.sw a b c | .addi a b c => EncodedKey.addi a b c | .slti a b c => EncodedKey.slti a b c
  | .sltiu a b c => EncodedKey.sltiu a b c | .xori a b c => EncodedKey.xori a b c | .ori a b c => EncodedKey.ori a b c
  | .andi a b c => EncodedKey.andi a b c | .slli a b c => EncodedKey.slli a b c | .srli a b c => EncodedKey.srli a b c
  | .srai a b c => EncodedKey.srai a b c | .add a b c => EncodedKey.add a b c | .sub a b c => EncodedKey.sub a b c
  | .sll a b c => EncodedKey.sll a b c | .slt a b c => EncodedKey.slt a b c | .sltu a b c => EncodedKey.sltu a b c
  | .xor a b c => EncodedKey.xor a b c | .srl a b c => EncodedKey.srl a b c | .sra a b c => EncodedKey.sra a b c | .or a b c => EncodedKey.or a b c
  | .and a b c => EncodedKey.and a b c | .fence a b c => EncodedKey.fence a b c | .ecall => EncodedKey.ecall | .ebreak => EncodedKey.ebreak
  | .classLoad a b c d e => EncodedKey.classLoad a b c d e | .classOpImm a b c d e => EncodedKey.classOpImm a b c d e
  | .classAuipc a b c => EncodedKey.classAuipc a b c | .classStore a b c d e => EncodedKey.classStore a b c d e
  | .classOp a b c d e f => EncodedKey.classOp a b c d e f | .classLui a b c => EncodedKey.classLui a b c
  | .classBranch a b c d e => EncodedKey.classBranch a b c d e | .classJalr a b c d e => EncodedKey.classJalr a b c d e
  | .classJal a b c => EncodedKey.classJal a b c | .classMiscMem a b c d e => EncodedKey.classMiscMem a b c d e
  | .classSystem a b c d e => EncodedKey.classSystem a b c d e | .classUnknown01 a b => EncodedKey.classUnknown01 a b
  | .classUnknown02 a b => EncodedKey.classUnknown02 a b | .classUnknown06 a b => EncodedKey.classUnknown06 a b
  | .classUnknown07 a b => EncodedKey.classUnknown07 a b | .classUnknown09 a b => EncodedKey.classUnknown09 a b
  | .classUnknown0A a b => EncodedKey.classUnknown0A a b | .classUnknown0B a b => EncodedKey.classUnknown0B a b
  | .classUnknown0E a b => EncodedKey.classUnknown0E a b | .classUnknown0F a b => EncodedKey.classUnknown0F a b
  | .classUnknown10 a b => EncodedKey.classUnknown10 a b | .classUnknown11 a b => EncodedKey.classUnknown11 a b
  | .classUnknown12 a b => EncodedKey.classUnknown12 a b | .classUnknown13 a b => EncodedKey.classUnknown13 a b
  | .classUnknown14 a b => EncodedKey.classUnknown14 a b | .classUnknown15 a b => EncodedKey.classUnknown15 a b
  | .classUnknown16 a b => EncodedKey.classUnknown16 a b | .classUnknown17 a b => EncodedKey.classUnknown17 a b
  | .classUnknown1A a b => EncodedKey.classUnknown1A a b | .classUnknown1D a b => EncodedKey.classUnknown1D a b
  | .classUnknown1E a b => EncodedKey.classUnknown1E a b | .classUnknown1F a b => EncodedKey.classUnknown1F a b

end Sys2Proof.Laws
end

section
/-! The machine computes the block function: each class's arm of `dispatch` (R87), and what `exec` settles on for a well-formed row. -/

namespace Sys2Proof.Machine

/-! ### The dispatch table, key by key (R86, R88, R89) -/

section
variable {extra : DispatchExtra} {w : Word}

theorem dispatch_load (h : Fields.opcode w = 0x00) : dispatch extra w = .ok .I (decodeI w) := by simp [dispatch, h]

theorem dispatch_opImm (h : Fields.opcode w = 0x04) : dispatch extra w = .ok .ISH (decodeIShamt w) := by simp [dispatch, h]

theorem dispatch_auipc (h : Fields.opcode w = 0x05) : dispatch extra w = .ok .U (decodeU w) := by simp [dispatch, h]

theorem dispatch_store (h : Fields.opcode w = 0x08) : dispatch extra w = .ok .S (decodeS w) := by simp [dispatch, h]

theorem dispatch_op (h : Fields.opcode w = 0x0C) : dispatch extra w = .ok .R (decodeR w) := by simp [dispatch, h]

theorem dispatch_lui (h : Fields.opcode w = 0x0D) : dispatch extra w = .ok .U (decodeU w) := by simp [dispatch, h]

theorem dispatch_branch (h : Fields.opcode w = 0x18) : dispatch extra w = .ok .B (decodeB w) := by simp [dispatch, h]

theorem dispatch_jalr (h : Fields.opcode w = 0x19) : dispatch extra w = .ok .I (decodeI w) := by simp [dispatch, h]

theorem dispatch_jal (h : Fields.opcode w = 0x1B) : dispatch extra w = .ok .J (decodeJ w) := by simp [dispatch, h]

theorem dispatch_miscMem (h : Fields.opcode w = 0x03) :
    dispatch extra w = if extra.miscMem then .ok .I (decodeI w) else .unknownOpcode 0x03 := by simp [dispatch, h]

theorem dispatch_system (h : Fields.opcode w = 0x1C) :
    dispatch extra w = if extra.system then .ok .I (decodeI w) else .unknownOpcode 0x1C := by simp [dispatch, h]

/-- Every opcode value outside the set K of R89 is the error, with that value. -/
theorem dispatch_of_not_inK (h : ¬ Claims.InK extra (Fields.opcode w)) :
    dispatch extra w = .unknownOpcode (Fields.opcode w) := by
  unfold dispatch
  split <;> simp_all [Claims.InK]
end

/-! ### The format decoders on an encoded word are its operand lists -/

section
variable (low : BitVec 2) (op : BitVec 5) (f3 : BitVec 3) (rd rs1 rs2 : RegIdx)

@[simp] theorem decodeR_encR (f7 : BitVec 7) : decodeR (encR low op f7 f3 rd rs1 rs2) = argsR rd rs1 rs2 := by
  simp [decodeR, argsR]

@[simp] theorem decodeI_encI (imm : BitVec 12) : decodeI (encI low op f3 rd rs1 imm) = argsI rd rs1 imm := by
  simp [decodeI, argsI, immI]

@[simp] theorem decodeIShamt_encI (imm : BitVec 12) :
    decodeIShamt (encI low op f3 rd rs1 imm) = argsISH f3 rd rs1 imm := by
  simp [decodeIShamt, argsISH, isShiftFunct3, argsShamt, argsI, immI]

theorem decodeIShamt_encR (f7 : BitVec 7) (h : isShiftFunct3 f3 = true) :
    decodeIShamt (encR low op f7 f3 rd rs1 rs2) = argsShamt rd rs1 rs2 := by
  have h15 : f3 = 1 ∨ f3 = 5 := by simpa [isShiftFunct3] using h
  rw [decodeIShamt, funct3_encR, if_pos h15, rd_encR, rs1_encR, rs2_encR, argsShamt]

@[simp] theorem decodeS_encS (imm : BitVec 12) : decodeS (encS low op f3 rs1 rs2 imm) = argsS rs1 rs2 imm := by
  simp [decodeS, argsS, immS]

theorem decodeB_encB (imm : BitVec 13) (h : evenImm imm = true) :
    decodeB (encB low op f3 rs1 rs2 imm) = argsB rs1 rs2 imm := by
  simp [decodeB, argsB, immB, patB_encB _ _ _ _ _ _ h]

@[simp] theorem decodeU_encU (imm : BitVec 20) : decodeU (encU low op rd imm) = argsU rd imm := by
  simp [decodeU, argsU, immU]

theorem decodeJ_encJ (imm : BitVec 21) (h : evenImm imm = true) : decodeJ (encJ low op rd imm) = argsJ rd imm := by
  simp [decodeJ, argsJ, immJ, patJ_encJ _ _ _ _ h]
end

/-- The meaning of a well-formed row settles the block on the row's own word and on what the block function makes of that word. -/
theorem exec_eq_settle_dispatch (i : Instr) (s : State) (h : i.wf = true) :
    exec i s = settle (encode i) (dispatch s.params.dispatchExtra (encode i)) s := by
  have hkey : Fields.opcode (encode i) = i.opClass.key := Laws.encodedKey i
  cases i
  case lb | lh | lw | lbu | lhu | classLoad => rw [dispatch_load hkey, encode, decodeI_encI]; rfl
  case addi | slti | sltiu | xori | ori | andi | classOpImm => rw [dispatch_opImm hkey, encode, decodeIShamt_encI]; rfl
  case slli | srli | srai => rw [dispatch_opImm hkey, encode, decodeIShamt_encR _ _ _ _ _ _ _ rfl]; rfl
  case auipc | classAuipc => rw [dispatch_auipc hkey, encode, decodeU_encU]; rfl
  case sb | sh | sw | classStore => rw [dispatch_store hkey, encode, decodeS_encS]; rfl
  case add | sub | sll | slt | sltu | xor | srl | sra | or | and | classOp => rw [dispatch_op hkey, encode, decodeR_encR]; rfl
  case lui | classLui => rw [dispatch_lui hkey, encode, decodeU_encU]; rfl
  case beq | bne | blt | bge | bltu | bgeu => rw [dispatch_branch hkey, encode, decodeB_encB _ _ _ _ _ _ h]; rfl
  case classBranch => rw [dispatch_branch hkey, encode, decodeB_encB _ _ _ _ _ _ (Bool.and_elim_left h)]; rfl
  case jalr | classJalr => rw [dispatch_jalr hkey, encode, decodeI_encI]; rfl
  case jal => rw [dispatch_jal hkey, encode, decodeJ_encJ _ _ _ _ h]; rfl
  case classJal => rw [dispatch_jal hkey, encode, decodeJ_encJ _ _ _ _ (Bool.and_elim_left h)]; rfl
  case fence | classMiscMem => rw [dispatch_miscMem hkey, encode, decodeI_encI]; exact returnIfKey_eq_settle ..
  case classSystem => rw [dispatch_system hkey, encode, decodeI_encI]; exact returnIfKey_eq_settle ..
  case ecall => rw [dispatch_system hkey, show decodeI (encode .ecall) = argsI 0 0 0 by decide]; exact returnIfKey_eq_settle ..
  case ebreak => rw [dispatch_system hkey, show decodeI (encode .ebreak) = argsI 0 0 1 by decide]; exact returnIfKey_eq_settle ..
  all_goals
    rw [dispatch_of_not_inK (by simp [hkey, Claims.InK, Instr.opClass, OpClass.key]), hkey]
    rfl

/-- One step settles the block on the word of the input port and on what the block function makes of it (R10, R87). -/
theorem step_eq_settle_dispatch (s : State) :
    step s = settle s.instr_i (dispatch s.params.dispatchExtra s.instr_i) s := by
  rw [step, exec_eq_settle_dispatch _ _ (wf_decodeWord _), encode_decodeWord]

/-- A word is its own masked value (R85). -/
@[simp] theorem maskInput_toNat (w : Word) : maskInput w.toNat = w := by
  apply BitVec.eq_of_toNat_eq
  simp only [maskInput, BitVec.toNat_ofNat]
  rw [show 0xFFFFFFFF = 2 ^ 32 - 1 from rfl, Nat.and_two_pow_sub_one_eq_mod]
  omega

@[simp] theorem decode_toNat (extra : DispatchExtra) (w : Word) : decode extra w.toNat = dispatch extra w := by
  rw [decode, maskInput_toNat]

end Sys2Proof.Machine
end

section
/-! The port encoding loses nothing: a consumer that reads the ports of a result of the block gets the result back (R8, R14, R17, R175). -/

namespace Sys2Proof.Machine

/-- What the 32 bits of a value port can carry (R14): an index and a shift amount always, an immediate if it is its own value modulo 2^32. -/
def Operand.FitsPort : Operand → Prop
  | .reg _ => True
  | .imm z => (BitVec.ofInt 32 z).toInt = z
  | .shamt _ => True

/-- What the ports of a word can carry (R17, R150): at most three operands that fit, or the error with the word's own opcode. -/
def Result.FitsPorts (w : Word) : Result → Prop
  | .ok _ args => args.length ≤ 3 ∧ ∀ a ∈ args, a.FitsPort
  | .unknownOpcode op => op = Fields.opcode w

/-- A sign-extended pattern of up to 32 bits is recovered from its port (R8). -/
theorem fitsPort_imm_signExtend {n : Nat} (v : BitVec n) (h1 : 1 ≤ n) (h32 : n ≤ 32) :
    (Operand.imm (signExtend v.toNat n)).FitsPort := by
  show (BitVec.ofInt 32 (signExtend v.toNat n)).toInt = _
  rw [ofInt_signExtend v h1, BitVec.toInt_signExtend_of_le h32, signExtend_eq_toInt v h1]

theorem fitsPort_immI (w : Word) : (Operand.imm (immI w)).FitsPort := fitsPort_imm_signExtend _ (by decide) (by decide)

theorem fitsPort_immS (w : Word) : (Operand.imm (immS w)).FitsPort := fitsPort_imm_signExtend _ (by decide) (by decide)

theorem fitsPort_immB (w : Word) : (Operand.imm (immB w)).FitsPort := fitsPort_imm_signExtend _ (by decide) (by decide)

theorem fitsPort_immU (w : Word) : (Operand.imm (immU w)).FitsPort := fitsPort_imm_signExtend _ (by decide) (by decide)

theorem fitsPort_immJ (w : Word) : (Operand.imm (immJ w)).FitsPort := fitsPort_imm_signExtend _ (by decide) (by decide)

/-- Every result of the block fits its word's ports. -/
theorem dispatch_fitsPorts (extra : DispatchExtra) (w : Word) : (dispatch extra w).FitsPorts w := by
  have hreg (i : RegIdx) : (Operand.reg i).FitsPort := trivial
  have hshamt (n : BitVec 5) : (Operand.shamt n).FitsPort := trivial
  have hI : (Result.ok .I (decodeI w)).FitsPorts w := by
    simp [Result.FitsPorts, decodeI, hreg, fitsPort_immI]
  unfold dispatch
  split
  case h_1 | h_8 => exact hI
  case h_2 => unfold decodeIShamt; split <;> simp [Result.FitsPorts, hreg, hshamt, fitsPort_immI]
  case h_3 | h_6 => simp [Result.FitsPorts, decodeU, hreg, fitsPort_immU]
  case h_4 => simp [Result.FitsPorts, decodeS, hreg, fitsPort_immS]
  case h_5 => simp [Result.FitsPorts, decodeR, hreg]
  case h_7 => simp [Result.FitsPorts, decodeB, hreg, fitsPort_immB]
  case h_9 => simp [Result.FitsPorts, decodeJ, hreg, fitsPort_immJ]
  case h_10 =>
    split
    · exact hI
    · rfl

/-- An operand that fits, or its absence, is read back from its two ports (R14). -/
theorem Operand.ofPort_codes {o : Option Operand} (h : ∀ a, o = some a → a.FitsPort) :
    Operand.ofPort (kindCode o) (valCode o) = o := by
  rcases o with _ | i | z | n
  · rfl
  · show some (Operand.reg ((i.setWidth 32).setWidth 5)) = _
    simp
  · show some (Operand.imm (signExtend (BitVec.ofInt 32 z).toNat 32)) = _
    have hz : (BitVec.ofInt 32 z).toInt = z := h _ rfl
    rw [signExtend_eq_toInt _ (by decide), hz]
  · show some (Operand.shamt ((n.setWidth 32).setWidth 5)) = _
    simp

/-- A list of at most three operands that fit is read back from the three pairs of ports. -/
theorem Ports.args_portsOf {w : Word} {r : Result} (h3 : r.args.length ≤ 3) (h : ∀ a ∈ r.args, a.FitsPort) :
    (portsOf w r).args = r.args := by
  have hpos (k : Nat) : Operand.ofPort (kindCode r.args[k]?) (valCode r.args[k]?) = r.args[k]? :=
    Operand.ofPort_codes fun a ha => h a (List.mem_of_getElem? ha)
  simp only [Ports.args, portsOf_arg0_kind_o, portsOf_arg1_kind_o, portsOf_arg2_kind_o, portsOf_arg0_val_o,
    portsOf_arg1_val_o, portsOf_arg2_val_o, hpos]
  match r.args, h3 with
  | [], _ => rfl
  | [_], _ => rfl
  | [_, _], _ => rfl
  | [_, _, _], _ => rfl

@[simp] theorem Fmt.ofCode_code (fmt : Fmt) : Fmt.ofCode fmt.code = some fmt := by
  cases fmt <;> rfl

/-- A result that fits is read back from its ports: the error first (R175), then the tag, then the list. -/
theorem Ports.result_portsOf {w : Word} {r : Result} (h : r.FitsPorts w) : (portsOf w r).result = some r := by
  cases r with
  | ok fmt args =>
    obtain ⟨h3, hfit⟩ := h
    simp [Ports.result, errCode, fmtCode, Ports.args_portsOf (r := .ok fmt args) h3 hfit, Result.args]
  | unknownOpcode op =>
    obtain rfl : op = Fields.opcode w := h
    rfl

end Sys2Proof.Machine

namespace Sys2Proof

open Machine

/-- Settles O33: the step settles on the block function's result (`step_eq_settle_dispatch`), and every such result fits its ports. -/
theorem portsReadBackAsTheResult : Obligations.PortsReadBackAsTheResult := by
  unfold Obligations.PortsReadBackAsTheResult
  intro s t hstep
  rw [step_eq_settle_dispatch] at hstep
  obtain ⟨-, -, hout⟩ := settle_cases _ _ _ _ hstep
  rw [hout, decode_toNat]
  exact Ports.result_portsOf (dispatch_fitsPorts _ _)

end Sys2Proof
end

section
/-! What one step answers, in one equation, and what follows for any two states and for any sequence of values (R10, R19, R24). -/

namespace Sys2Proof.Machine

/-- The next state of every state: the ports of its word's result, and everything else as it was (R10, R87). -/
theorem step_eq_next (s : State) :
    step s = .next { s with out := portsOf s.instr_i (dispatch s.params.dispatchExtra s.instr_i) } := by
  rw [step_eq_settle_dispatch, settle_eq_next]

/-- Everything a step does. -/
theorem step_cases {s t : State} (h : step s = .next t) :
    t.instr_i = s.instr_i ∧ t.params = s.params ∧ t.out = portsOf s.instr_i (dispatch s.params.dispatchExtra s.instr_i) := by
  rw [step_eq_settle_dispatch] at h
  exact settle_cases _ _ _ _ h

/-- A step leaves ports that agree with the input (R20). -/
theorem settled_of_step {s t : State} (h : step s = .next t) : t.Settled := by
  obtain ⟨hin, hparams, hout⟩ := step_cases h
  rw [State.Settled, hin, hparams, hout]

/-- Where the ports agree with the input already, a step changes nothing (R24). -/
theorem step_of_settled {s : State} (h : s.Settled) : step s = .next s := by
  rw [step_eq_next, ← h]

/-- The ports of the block's result read as that result. -/
theorem Ports.result_portsOf_dispatch (extra : DispatchExtra) (w : Word) :
    (portsOf w (dispatch extra w)).result = some (dispatch extra w) :=
  Ports.result_portsOf (dispatch_fitsPorts extra w)

end Sys2Proof.Machine
end

section
/-! Every result of the block has one of the shapes of R17's table, and such a result drives legal ports (R14, R17). -/

namespace Sys2Proof.Machine

/-- The operand kinds R17's table gives each tag; the error has no operands. -/
def Result.HasShape : Result → Prop
  | .ok .R args => ∃ a b c, args = [.reg a, .reg b, .reg c]
  | .ok .I args | .ok .S args | .ok .B args => ∃ a b z, args = [.reg a, .reg b, .imm z]
  | .ok .ISH args => (∃ a b z, args = [.reg a, .reg b, .imm z]) ∨ ∃ a b n, args = [.reg a, .reg b, .shamt n]
  | .ok .U args | .ok .J args => ∃ a z, args = [.reg a, .imm z]
  | .unknownOpcode _ => True

/-- Each format decoder returns the kinds of its own tag (R75 to R81). -/
theorem dispatch_hasShape (extra : DispatchExtra) (w : Word) : (dispatch extra w).HasShape := by
  unfold dispatch
  split
  case h_1 | h_8 => exact ⟨_, _, _, rfl⟩
  case h_2 =>
    unfold decodeIShamt
    split
    · exact .inr ⟨_, _, _, rfl⟩
    · exact .inl ⟨_, _, _, rfl⟩
  case h_4 | h_5 | h_7 => exact ⟨_, _, _, rfl⟩
  case h_3 | h_6 | h_9 => exact ⟨_, _, rfl⟩
  case h_10 =>
    split
    · exact ⟨_, _, _, rfl⟩
    · trivial

/-- The two ports of one operand position belong together, whatever stands there (R14). -/
theorem legalOperand_codes (o : Option Operand) : LegalOperand (kindCode o) (valCode o) := by
  have hidx (i : BitVec 5) : (i.setWidth 32).toNat < 32 := by
    rw [BitVec.toNat_setWidth_of_le (by decide)]
    exact i.isLt
  rcases o with _ | i | z | n
  · exact ⟨fun _ => rfl, nofun, nofun⟩
  · exact ⟨nofun, fun _ => hidx i, nofun⟩
  · exact ⟨nofun, nofun, nofun⟩
  · exact ⟨nofun, nofun, fun _ => hidx n⟩

/-- A result of one of the table's shapes drives legal ports. -/
theorem portsOf_legal (w : Word) {r : Result} (h : r.HasShape) : (portsOf w r).Legal := by
  refine ⟨legalOperand_codes _, legalOperand_codes _, legalOperand_codes _, ?_⟩
  rcases r with ⟨fmt, args⟩ | op
  · cases fmt
    case R =>
      obtain ⟨a, b, c, rfl⟩ := h
      exact .inr (.inl ⟨rfl, rfl, rfl, rfl, rfl, rfl⟩)
    case I =>
      obtain ⟨a, b, z, rfl⟩ := h
      exact .inr (.inr (.inl ⟨rfl, .inl rfl, rfl, rfl, rfl, rfl⟩))
    case S =>
      obtain ⟨a, b, z, rfl⟩ := h
      exact .inr (.inr (.inl ⟨rfl, .inr (.inl rfl), rfl, rfl, rfl, rfl⟩))
    case B =>
      obtain ⟨a, b, z, rfl⟩ := h
      exact .inr (.inr (.inl ⟨rfl, .inr (.inr rfl), rfl, rfl, rfl, rfl⟩))
    case ISH =>
      obtain ⟨a, b, z, rfl⟩ | ⟨a, b, n, rfl⟩ := h
      · exact .inr (.inr (.inr (.inl ⟨rfl, rfl, rfl, rfl, rfl, .inl rfl⟩)))
      · exact .inr (.inr (.inr (.inl ⟨rfl, rfl, rfl, rfl, rfl, .inr rfl⟩)))
    case U =>
      obtain ⟨a, z, rfl⟩ := h
      exact .inr (.inr (.inr (.inr ⟨rfl, .inl rfl, rfl, rfl, rfl, rfl⟩)))
    case J =>
      obtain ⟨a, z, rfl⟩ := h
      exact .inr (.inr (.inr (.inr ⟨rfl, .inr rfl, rfl, rfl, rfl, rfl⟩)))
  · exact .inl ⟨rfl, rfl, rfl, rfl, rfl, rfl⟩

end Sys2Proof.Machine

namespace Sys2Proof

open Machine

/-- Settles O17: the ports agree with the input by what a step does (`step_cases`), and are legal because every result of the block has a shape of
R17's table (`dispatch_hasShape`). -/
theorem stepLeavesSettledLegalPorts : Obligations.StepLeavesSettledLegalPorts := by
  unfold Obligations.StepLeavesSettledLegalPorts
  intro s t hstep
  obtain ⟨hin, hparams, hout⟩ := step_cases hstep
  refine ⟨settled_of_step hstep, ?_, hin, hparams⟩
  rw [hout]
  exact portsOf_legal _ (dispatch_hasShape _ _)

/-- Settles O15: the ports after a step are written by `step_eq_next` in terms of the word and the parameter alone,
and a settled state is a fixed point. -/
theorem outputsDependOnTheInputAlone : Obligations.OutputsDependOnTheInputAlone := by
  unfold Obligations.OutputsDependOnTheInputAlone
  refine ⟨fun s s' hin hextra => ?_, fun s t hstep => step_of_settled (settled_of_step hstep)⟩
  refine ⟨_, _, step_eq_next s, step_eq_next s', ?_⟩
  rw [hin, hextra]

/-- Settles O19, by induction on the list of values: a step shows the word's own result, and leaves the parameters as they were. -/
theorem streamOfWordsIsDecodedWordByWord : Obligations.StreamOfWordsIsDecodedWordByWord := by
  unfold Obligations.StreamOfWordsIsDecodedWordByWord
  intro xs
  induction xs with
  | nil => intro s; rfl
  | cons x xs ih =>
    intro s
    simp only [feed, step_eq_next, ih, State.present_instr_i, State.present_params, Ports.result_portsOf_dispatch,
      List.map_cons, decode]

/-- Settles O1: `step` is `exec` of the decoded word by definition, and four bytes are exactly one word. -/
theorem stepRunsTheDecodedInstruction : Obligations.StepRunsTheDecodedInstruction := by
  unfold Obligations.StepRunsTheDecodedInstruction
  constructor
  · intro s b0 b1 b2 b3 rest after i hword hdecode
    obtain ⟨rfl, rfl⟩ : decodeWord (wordOfBytes b0 b1 b2 b3) = i ∧ rest = after := by simpa [decodeBytes] using hdecode
    exact ⟨rfl, by rw [step, hword]⟩
  · rintro s i rfl
    rfl

end Sys2Proof
end

section
/-! The four bytes of a table word are the word that `present` puts on the input port (R18, R22, R85). -/

namespace Sys2Proof

open Machine

/-- The mask is the remainder modulo 2^32 (R85). -/
theorem Machine.toNat_maskInput (x : Nat) : (maskInput x).toNat = x % 2 ^ 32 := by
  rw [maskInput, BitVec.toNat_ofNat, show 0xFFFFFFFF = 2 ^ 32 - 1 from rfl, Nat.and_two_pow_sub_one_eq_mod, Nat.mod_mod]

/-- A byte appended below is added to the value shifted up by eight bits. -/
theorem toNat_append_byte {n : Nat} (v : BitVec n) (b : Byte) : (v ++ b).toNat = v.toNat * 2 ^ 8 + b.toNat := by
  rw [BitVec.toNat_append, ← Nat.shiftLeft_add_eq_or_of_lt b.isLt, Nat.shiftLeft_eq]

/-- Bytes that are the base-256 digits of a number make up that number's low 32 bits (R22). -/
theorem wordOfBytes_digits (x : Nat) :
    wordOfBytes (BitVec.ofNat 8 x) (BitVec.ofNat 8 (x / 2 ^ 8)) (BitVec.ofNat 8 (x / 2 ^ 16)) (BitVec.ofNat 8 (x / 2 ^ 24)) =
      maskInput x := by
  apply BitVec.eq_of_toNat_eq
  simp only [toNat_maskInput, wordOfBytes, toNat_append_byte, BitVec.toNat_ofNat]
  omega

/-- The decoder reads a table word as the word that is placed on the input port. -/
theorem decodeTableWord_eq (nbits w : Nat) : decodeTableWord nbits w = some (decodeWord (maskInput (w % 2 ^ nbits))) :=
  congrArg (fun v => some (decodeWord v)) (wordOfBytes_digits _)

/-- Settles O2: the decoder reads the word that stands on the port (`decodeTableWord_eq`), and a step runs that word's row. -/
theorem fetchWordIsTheNextInstruction : Obligations.FetchWordIsTheNextInstruction := by
  unfold Obligations.FetchWordIsTheNextInstruction
  intro s nbits w
  exact ⟨_, decodeTableWord_eq nbits w, rfl, rfl, rfl, toNat_maskInput _⟩

end Sys2Proof
end

section
/-! The ports of each row of the result table (R14, R17). -/

namespace Sys2Proof.Machine

/-- A key of the table has a result other than the error (R89). -/
theorem dispatch_of_inK {extra : DispatchExtra} {w : Word} (h : Claims.InK extra (Fields.opcode w)) :
    ∃ fmt args, dispatch extra w = .ok fmt args := by
  unfold dispatch
  split
  case h_10 =>
    rw [if_pos]
    · exact ⟨_, _, rfl⟩
    · obtain hbase | hopen := h
      · exact absurd hbase (by simp_all)
      · exact hopen
  all_goals exact ⟨_, _, rfl⟩

/-- An I list with the tag I: the keys of LOAD and JALR, and an open key that the parameter holds (R86, R88). -/
theorem dispatch_of_tagI {extra : DispatchExtra} {w : Word}
    (h : Fields.opcode w = 0x00 ∨ Fields.opcode w = 0x19 ∨ (Fields.opcode w = 0x03 ∧ extra.miscMem = true) ∨
      (Fields.opcode w = 0x1C ∧ extra.system = true)) : dispatch extra w = .ok .I (decodeI w) := by
  obtain h | h | ⟨h, hkey⟩ | ⟨h, hkey⟩ := h
  · exact dispatch_load h
  · exact dispatch_jalr h
  · rw [dispatch_miscMem h, if_pos hkey]
  · rw [dispatch_system h, if_pos hkey]

/-- A U list: the keys of AUIPC and LUI (R86). -/
theorem dispatch_of_tagU {extra : DispatchExtra} {w : Word} (h : Fields.opcode w = 0x05 ∨ Fields.opcode w = 0x0D) :
    dispatch extra w = .ok .U (decodeU w) :=
  h.elim dispatch_auipc dispatch_lui

section
variable {w : Word} {fmt : Fmt} {a b c : Operand} {p : Ports}

/-- The ports of three operands. -/
theorem portsOf_three (hp : p = portsOf w (.ok fmt [a, b, c])) :
    p.fmt_o = fmt.code ∧ p.nargs_o = 3 ∧
    p.arg0_kind_o = kindCode (some a) ∧ p.arg1_kind_o = kindCode (some b) ∧ p.arg2_kind_o = kindCode (some c) ∧
    p.arg0_val_o = valCode (some a) ∧ p.arg1_val_o = valCode (some b) ∧ p.arg2_val_o = valCode (some c) := by
  subst hp
  exact ⟨rfl, rfl, rfl, rfl, rfl, rfl, rfl, rfl⟩

/-- The ports of two operands: nothing stands in the third position. -/
theorem portsOf_two (hp : p = portsOf w (.ok fmt [a, b])) :
    p.fmt_o = fmt.code ∧ p.nargs_o = 2 ∧
    p.arg0_kind_o = kindCode (some a) ∧ p.arg1_kind_o = kindCode (some b) ∧ p.arg2_kind_o = 0 ∧
    p.arg0_val_o = valCode (some a) ∧ p.arg1_val_o = valCode (some b) ∧ p.arg2_val_o = 0 := by
  subst hp
  exact ⟨rfl, rfl, rfl, rfl, rfl, rfl, rfl, rfl⟩
end

end Sys2Proof.Machine

namespace Sys2Proof

open Machine

/-- Settles O32, row by row: the key's arm of `dispatch`, and the ports of a list of its length. -/
theorem resultOnThePorts : Obligations.ResultOnThePorts := by
  unfold Obligations.ResultOnThePorts
  intro s w
  refine ⟨_, step_eq_next s, ?err0, ?err1, ?R, ?I, ?ISH, ?S, ?B, ?U, ?J⟩
  case err0 =>
    intro h
    obtain ⟨fmt, args, hok⟩ := dispatch_of_inK h
    rw [hok]
    rfl
  case err1 =>
    intro h
    rw [dispatch_of_not_inK h]
    exact ⟨rfl, rfl, rfl, rfl, rfl, rfl, rfl, rfl, rfl⟩
  case R => exact fun h => portsOf_three (congrArg (portsOf w) (dispatch_op h))
  case I => exact fun h => portsOf_three (congrArg (portsOf w) (dispatch_of_tagI h))
  case ISH =>
    intro h
    rw [dispatch_opImm h, decodeIShamt]
    by_cases hshift : Fields.funct3 w = 1 ∨ Fields.funct3 w = 5
    · rw [if_pos hshift, if_pos hshift]
      exact ⟨rfl, rfl, rfl, rfl, rfl, rfl, rfl, rfl⟩
    · rw [if_neg hshift, if_neg hshift]
      exact ⟨rfl, rfl, rfl, rfl, rfl, rfl, rfl, rfl⟩
  case S => exact fun h => portsOf_three (congrArg (portsOf w) (dispatch_store h))
  case B => exact fun h => portsOf_three (congrArg (portsOf w) (dispatch_branch h))
  case U => exact fun h => portsOf_two (congrArg (portsOf w) (dispatch_of_tagU h))
  case J => exact fun h => portsOf_two (congrArg (portsOf w) (dispatch_jal h))

end Sys2Proof
end

section
/-! The named view of a step's ports is the named view of its result (R15). -/

namespace Sys2Proof

open Machine

/-- The view after a step is that of the result of the block function, through the state's own table. -/
theorem namedView_of_step {s t : State} (h : step s = .next t) :
    t.namedView = Result.namedView s.params.regname (decode s.params.dispatchExtra s.instr_i.toNat) := by
  obtain ⟨-, hparams, -⟩ := step_cases h
  rw [State.namedView, portsReadBackAsTheResult s t h, hparams, Option.bind_some]

/-- The default table, entry by entry (R15). -/
theorem regNames_default_get : ∀ i : Fin 32, RegNames.default.get i = "x" ++ toString i.val := by
  decide

/-- Under the default table, a word that is decoded to a list shows that list's names. -/
theorem exists_step_namedView {s : State} (hnames : s.params.regname = RegNames.default) {w : Word} {fmt : Fmt} {args : List Operand}
    (hw : dispatch s.params.dispatchExtra w = .ok fmt args) :
    ∃ t, step (Claims.on s w) = .next t ∧ t.namedView = some (args.map (Operand.named RegNames.default)) := by
  refine ⟨_, step_eq_next _, ?_⟩
  rw [namedView_of_step (step_eq_next _), decode_toNat]
  simp only [Claims.on, hw, hnames, Result.namedView]

/-- Settles O36: `Operand.named` case by case, the view of a step (`namedView_of_step`), and the default table's entries. -/
theorem namedViewUsesTheNameTable : Obligations.NamedViewUsesTheNameTable := by
  unfold Obligations.NamedViewUsesTheNameTable
  refine ⟨fun _ _ _ _ => ⟨rfl, rfl, rfl⟩, ?view, regNames_default_get, ?examples⟩
  case view =>
    intro s t hstep
    rw [namedView_of_step hstep]
    cases decode s.params.dispatchExtra s.instr_i.toNat <;> rfl
  case examples =>
    intro s hnames
    exact ⟨exists_step_namedView hnames (dispatch_opImm (by decide)), exists_step_namedView hnames (dispatch_opImm (by decide)),
      exists_step_namedView hnames (dispatch_op (by decide))⟩

end Sys2Proof
end

section
/-! The word of four bytes in ascending address order (R22). -/

namespace Sys2Proof

/-- A byte appended below keeps its place, and what stands above it is shifted up by eight bits. -/
theorem toNat_append_byte_eq_or {n : Nat} (v : BitVec n) (b : Byte) : (v ++ b).toNat = b.toNat ||| v.toNat <<< 8 := by
  rw [BitVec.toNat_append, Nat.or_comm]

/-- Settles O37: the word is built by three appends (`toNat_append_byte_eq_or`), whose shifts by 8 add up to 8, 16 and 24. -/
theorem wordOfBytesIsLittleEndian : Obligations.WordOfBytesIsLittleEndian := by
  unfold Obligations.WordOfBytesIsLittleEndian
  refine ⟨fun b0 b1 b2 b3 => ?formula, by decide⟩
  case formula =>
    calc (wordOfBytes b0 b1 b2 b3).toNat
        = b0.toNat ||| (b1.toNat ||| (b2.toNat ||| b3.toNat <<< 8) <<< 8) <<< 8 := by
          simp only [wordOfBytes, toNat_append_byte_eq_or]
      _ = b0.toNat ||| b1.toNat <<< 8 ||| b2.toNat <<< 16 ||| b3.toNat <<< 24 := by
          simp only [Nat.shiftLeft_or_distrib, ← Nat.shiftLeft_add, Nat.reduceAdd, ← Nat.or_assoc]

end Sys2Proof
end

section
/-! The decoder undoes the encoder: a word that no named row of its class matches keeps its class row, and the row of an encoded instruction is
the instruction (95_test_vectors.md section 2; the split of class rows from named rows is log 5). -/

namespace Sys2Proof

open Machine

/-! ### Class by class: a word of no named row is the class row with the word's own fields -/

section
variable {w : Word}

theorem decodeLoad_of_not_named (h : namedLoad (Fields.low w) (Fields.funct3 w) = false) :
    decodeLoad w = .classLoad (Fields.low w) (Fields.funct3 w) (Fields.rd w) (Fields.rs1 w) (patI w) := by
  unfold decodeLoad
  split
  · split <;> simp_all [namedLoad]
  · rfl

theorem decodeOpImm_of_not_named (h : namedOpImm (Fields.low w) (Fields.funct3 w) (Fields.funct7 w) = false) :
    decodeOpImm w = .classOpImm (Fields.low w) (Fields.funct3 w) (Fields.rd w) (Fields.rs1 w) (patI w) := by
  unfold decodeOpImm
  split
  · split
    case h_8 =>
      have h5 : Fields.funct3 w = 5 := by
        have h3 := funct3_cases (Fields.funct3 w)
        simp_all
      simp_all [namedOpImm]
    all_goals simp_all [namedOpImm]
  · rfl

theorem decodeStore_of_not_named (h : namedStore (Fields.low w) (Fields.funct3 w) = false) :
    decodeStore w = .classStore (Fields.low w) (Fields.funct3 w) (Fields.rs1 w) (Fields.rs2 w) (patS w) := by
  unfold decodeStore
  split
  · split <;> simp_all [namedStore]
  · rfl

theorem decodeOp_of_not_named (h : namedOp (Fields.low w) (Fields.funct7 w) (Fields.funct3 w) = false) :
    decodeOp w = .classOp (Fields.low w) (Fields.funct7 w) (Fields.funct3 w) (Fields.rd w) (Fields.rs1 w) (Fields.rs2 w) := by
  unfold decodeOp
  dsimp only
  split_ifs
  · simp_all [namedOp]
  · split <;> simp_all [namedOp]
  all_goals rfl

theorem decodeBranch_of_not_named (h : namedBranch (Fields.low w) (Fields.funct3 w) = false) :
    decodeBranch w = .classBranch (Fields.low w) (Fields.funct3 w) (Fields.rs1 w) (Fields.rs2 w) (patB w) := by
  unfold decodeBranch
  split
  · split <;> simp_all [namedBranch]
  · rfl

theorem decodeJalr_of_not_named (h : namedFunct3Zero (Fields.low w) (Fields.funct3 w) = false) :
    decodeJalr w = .classJalr (Fields.low w) (Fields.funct3 w) (Fields.rd w) (Fields.rs1 w) (patI w) :=
  if_neg (by simpa [namedFunct3Zero] using h)

theorem decodeMiscMem_of_not_named (h : namedFunct3Zero (Fields.low w) (Fields.funct3 w) = false) :
    decodeMiscMem w = .classMiscMem (Fields.low w) (Fields.funct3 w) (Fields.rd w) (Fields.rs1 w) (patI w) :=
  if_neg (by simpa [namedFunct3Zero] using h)

theorem decodeSystem_of_not_named (h : namedSystem (Fields.low w) (Fields.funct3 w) (Fields.rd w) (Fields.rs1 w) (patI w) = false) :
    decodeSystem w = .classSystem (Fields.low w) (Fields.funct3 w) (Fields.rd w) (Fields.rs1 w) (patI w) := by
  have hcall : w ≠ 0x00000073 := by
    rintro rfl
    exact absurd h (by decide)
  have hbreak : w ≠ 0x00100073 := by
    rintro rfl
    exact absurd h (by decide)
  rw [decodeSystem, if_neg hcall, if_neg hbreak]
end

/-! ### Row by row: the encoded word selects the row, and its fields are the row's operands -/

/-- For a well-formed row the class's decoder takes the encoded word back to the row: the tests of a named row hold of its own fixed fields, and a
class row passes none of them. -/
theorem decodeClass_encode (i : Instr) (hwf : i.wf = true) : decodeClass i.opClass (encode i) = i := by
  cases i <;> simp only [Instr.opClass, decodeClass, encode, Instr.wf, Bool.and_eq_true, Bool.not_eq_true', beq_eq_false_iff_ne] at hwf ⊢
  case lui => simp [decodeLui]
  case auipc => simp [decodeAuipc]
  case jal => simp [decodeJal, patJ_encJ, hwf]
  case jalr => simp [decodeJalr]
  case beq | bne | blt | bge | bltu | bgeu => simp [decodeBranch, patB_encB, hwf]
  case lb | lh | lw | lbu | lhu => simp [decodeLoad]
  case sb | sh | sw => simp [decodeStore]
  case addi | slti | sltiu | xori | ori | andi | slli | srli | srai => simp [decodeOpImm]
  case add | sub | sll | slt | sltu | xor | srl | sra | or | and => simp [decodeOp]
  case fence => simp [decodeMiscMem]
  case ecall | ebreak => rfl
  case classLoad => simp [decodeLoad_of_not_named, hwf]
  case classOpImm => simp [decodeOpImm_of_not_named, hwf]
  case classAuipc => rw [decodeAuipc, low_encU, if_neg hwf, rd_encU, patU_encU]
  case classStore => simp [decodeStore_of_not_named, hwf]
  case classOp => simp [decodeOp_of_not_named, hwf]
  case classLui => rw [decodeLui, low_encU, if_neg hwf, rd_encU, patU_encU]
  case classBranch => simp [decodeBranch_of_not_named, patB_encB, hwf]
  case classJalr => simp [decodeJalr_of_not_named, hwf]
  case classJal => rw [decodeJal, low_encJ, if_neg hwf.2, rd_encJ, patJ_encJ _ _ _ _ hwf.1]
  case classMiscMem => simp [decodeMiscMem_of_not_named, hwf]
  case classSystem => simp [decodeSystem_of_not_named, hwf]
  all_goals rw [low_encRest, patRest_encRest]

/-- Settles O3: the opcode field of the encoded word names the row's class (`Laws.encodedKey`), and within the class the row's own fields
select it again (`decodeClass_encode`). -/
theorem decodeOfEncodeIsTheInstruction : Obligations.DecodeOfEncodeIsTheInstruction := by
  unfold Obligations.DecodeOfEncodeIsTheInstruction
  intro i hwf
  rw [decodeWord_of_opcode i.opClass _ (Laws.encodedKey i)]
  exact decodeClass_encode i hwf

/-- Settles O4: the class of a word's opcode field makes it a well-formed row whose layout joins the word's own fields (`decodeClass_isRow`). -/
theorem encodeOfDecodeIsTheWord : Obligations.EncodeOfDecodeIsTheWord := by
  unfold Obligations.EncodeOfDecodeIsTheWord
  exact fun w => ⟨wf_decodeWord w, encode_decodeWord w⟩

/-- Settles O5, by evaluating the decoder on the eleven words. -/
theorem writtenWordsDecodeToTheirRows : Obligations.WrittenWordsDecodeToTheirRows := by
  unfold Obligations.WrittenWordsDecodeToTheirRows
  decide

end Sys2Proof
end

section
/-! The bit map of the immediates (30_encoding.md R39): the word bit behind each bit of a pattern, and the copies of the sign bit on the port (R62). -/

namespace Sys2Proof.Machine

/-! ### Each bit of a pattern is a bit of the word -/

section
variable (w : Word)

theorem getLsbD_patI {k : Nat} (hk : k < 12) : (patI w).getLsbD k = w.getLsbD (k + 20) := by
  simp [patI, Fields.imm110, hk, Nat.add_comm]

theorem getLsbD_patS {k : Nat} (hk : k < 12) : (patS w).getLsbD k = if k < 5 then w.getLsbD (k + 7) else w.getLsbD (k + 20) := by
  simp only [patS, Fields.funct7, Fields.rd, BitVec.getLsbD_append, BitVec.getLsbD_extractLsb']
  split_ifs <;> (rw [decide_eq_true (by omega), Bool.true_and]; congr 1; omega)

theorem getLsbD_patB {k : Nat} (hk : k < 13) : (patB w).getLsbD k =
    if k = 0 then false else if k < 5 then w.getLsbD (k + 7) else if k < 11 then w.getLsbD (k + 20)
    else if k = 11 then w.getLsbD 7 else w.getLsbD 31 := by
  simp only [patB, Fields.funct7, Fields.rd, BitVec.getLsbD_append, BitVec.getLsbD_extractLsb']
  interval_cases k <;> simp

theorem getLsbD_patU {k : Nat} (hk : k < 20) : (patU w).getLsbD k = w.getLsbD (k + 12) := by
  simp [patU, Fields.imm3112, hk, Nat.add_comm]

theorem getLsbD_patJ {k : Nat} (hk : k < 21) : (patJ w).getLsbD k =
    if k = 0 then false else if k < 11 then w.getLsbD (k + 20) else if k = 11 then w.getLsbD 20
    else if k < 20 then w.getLsbD k else w.getLsbD 31 := by
  simp only [patJ, Fields.imm3112, BitVec.getLsbD_append, BitVec.getLsbD_extractLsb']
  interval_cases k <;> simp
end

/-! ### Each bit of the port is a bit of the pattern: its own, or above the top one the sign bit -/

theorem getLsbD_ofInt_signExtend {n k : Nat} (v : BitVec n) (hn : 1 ≤ n) (hk : k < 32) :
    (BitVec.ofInt 32 (signExtend v.toNat n)).getLsbD k = if k < n then v.getLsbD k else v.getLsbD (n - 1) := by
  rw [ofInt_signExtend v hn, BitVec.getLsbD_signExtend, decide_eq_true hk, Bool.true_and, BitVec.msb_eq_getLsbD_last]

section
variable (w : Word) {k : Nat} (hk : k < 32)
include hk

theorem getLsbD_immI : (BitVec.ofInt 32 (immI w)).getLsbD k = if k < 12 then w.getLsbD (k + 20) else w.getLsbD 31 := by
  rw [immI, getLsbD_ofInt_signExtend _ (by decide) hk]
  split
  · rw [getLsbD_patI w ‹_›]
  · rw [getLsbD_patI w (by decide)]

theorem getLsbD_immS : (BitVec.ofInt 32 (immS w)).getLsbD k =
    if k < 5 then w.getLsbD (k + 7) else if k < 12 then w.getLsbD (k + 20) else w.getLsbD 31 := by
  rw [immS, getLsbD_ofInt_signExtend _ (by decide) hk]
  split
  · rw [getLsbD_patS w ‹_›]
  · rw [getLsbD_patS w (by decide), if_neg (by decide), if_neg (by omega)]

theorem getLsbD_immB : (BitVec.ofInt 32 (immB w)).getLsbD k =
    if k = 0 then false else if k < 5 then w.getLsbD (k + 7) else if k < 11 then w.getLsbD (k + 20)
    else if k = 11 then w.getLsbD 7 else w.getLsbD 31 := by
  rw [immB, getLsbD_ofInt_signExtend _ (by decide) hk]
  split
  · rw [getLsbD_patB w ‹_›]
  · simp (disch := omega) only [getLsbD_patB, if_neg]

theorem getLsbD_immU : (BitVec.ofInt 32 (immU w)).getLsbD k = if k < 20 then w.getLsbD (k + 12) else w.getLsbD 31 := by
  rw [immU, getLsbD_ofInt_signExtend _ (by decide) hk]
  split
  · rw [getLsbD_patU w ‹_›]
  · rw [getLsbD_patU w (by decide)]

theorem getLsbD_immJ : (BitVec.ofInt 32 (immJ w)).getLsbD k =
    if k = 0 then false else if k < 11 then w.getLsbD (k + 20) else if k = 11 then w.getLsbD 20
    else if k < 20 then w.getLsbD k else w.getLsbD 31 := by
  rw [immJ, getLsbD_ofInt_signExtend _ (by decide) hk]
  split
  · rw [getLsbD_patJ w ‹_›]
  · simp (disch := omega) only [getLsbD_patJ, if_neg]
end

end Sys2Proof.Machine

namespace Sys2Proof

open Machine

/-- Settles O28: each clause is one run of the bit map of its format (`getLsbD_immI` to `getLsbD_immJ`). -/
theorem immediateBitMap : Obligations.ImmediateBitMap := by
  unfold Obligations.ImmediateBitMap
  intro w k
  refine ⟨?i, ?sLow, ?sHigh, ?signIS, ?bZero, ?bLow, ?bHigh, ?bEleven, ?signB, ?u, ?signU, ?jZero, ?jLow, ?jEleven, ?jHigh, ?signJ⟩
  case i => exact fun hk => by simp (disch := omega) only [getLsbD_immI, if_pos]
  case sLow | sHigh => exact fun hk => by simp (disch := omega) only [getLsbD_immS, if_pos, if_neg]
  case signIS => exact fun hk => by simp (disch := omega) only [getLsbD_immI, getLsbD_immS, if_neg, and_self]
  case bZero | bEleven => exact getLsbD_immB w (by decide)
  case bLow | bHigh | signB => exact fun hk => by simp (disch := omega) only [getLsbD_immB, if_pos, if_neg]
  case u | signU => exact fun hk => by simp (disch := omega) only [getLsbD_immU, if_pos, if_neg]
  case jZero | jEleven => exact getLsbD_immJ w (by decide)
  case jLow | jHigh | signJ => exact fun hk => by simp (disch := omega) only [getLsbD_immJ, if_pos, if_neg]

end Sys2Proof
end

section
/-! The Field Extractor as masks and bit by bit (40_field_extractor.md R50 to R58): what a slice is as a number, and what flipping one bit of the word
does to it. -/

namespace Sys2Proof

/-! ### A slice of a word as a number -/

section
variable {n : Nat} (w : BitVec n)

/-- A slice is the shift-and-mask value of its range. -/
theorem toNat_extractLsb'_eq_mask (lo len : Nat) : (w.extractLsb' lo len).toNat = (w.toNat >>> lo) &&& (2 ^ len - 1) := by
  rw [BitVec.extractLsb'_toNat, Nat.and_two_pow_sub_one_eq_mod]

/-- A slice that reaches the top of the word needs no mask. -/
theorem toNat_extractLsb'_of_top {lo len : Nat} (h : n = lo + len) : (w.extractLsb' lo len).toNat = w.toNat >>> lo := by
  subst h
  rw [BitVec.extractLsb'_toNat, Nat.mod_eq_of_lt]
  rw [Nat.shiftRight_eq_div_pow, Nat.div_lt_iff_lt_mul (Nat.two_pow_pos lo), ← pow_add, Nat.add_comm len]
  exact w.isLt

/-! ### A slice of a word with one bit flipped -/

/-- Slicing the mask of bit `k`: bit `k - lo` of the slice where the range holds `k`, and nothing elsewhere. -/
theorem extractLsb'_twoPow (k lo len : Nat) (hk : k < n) :
    (BitVec.twoPow n k).extractLsb' lo len = if lo ≤ k ∧ k < lo + len then BitVec.twoPow len (k - lo) else 0 := by
  apply BitVec.eq_of_getLsbD_eq
  intro i hi
  rw [BitVec.getLsbD_extractLsb', BitVec.getLsbD_twoPow]
  split_ifs with hrange
  · simp only [BitVec.getLsbD_twoPow, hi, hk, decide_true, Bool.true_and]
    rw [← Bool.decide_and, decide_eq_decide]
    omega
  · have hne : ¬ k = lo + i := by omega
    simp [hne]

/-- Flipping bit `k` of the word flips bit `k - lo` of a slice whose range holds `k`, and leaves any other slice alone (R58 (b)).
The condition on `k` may be spelled as the field's own range spells it. -/
theorem extractLsb'_flip (lo len : Nat) {k : Nat} {inRange : Prop} [Decidable inRange] (hk : k < n)
    (hrange : inRange ↔ lo ≤ k ∧ k < lo + len) :
    (w ^^^ BitVec.twoPow n k).extractLsb' lo len =
      if inRange then w.extractLsb' lo len ^^^ BitVec.twoPow len (k - lo) else w.extractLsb' lo len := by
  rw [BitVec.extractLsb'_xor, extractLsb'_twoPow k lo len hk]
  simp only [hrange]
  split_ifs
  · rfl
  · exact BitVec.xor_zero
end

open Machine

/-- A joined word is the OR of its parts, each at its position (R31). -/
theorem toNat_join (f7 : BitVec 7) (rs2 rs1 : RegIdx) (f3 : BitVec 3) (rd : RegIdx) (op : BitVec 5) (lo : BitVec 2) :
    (Fields.join f7 rs2 rs1 f3 rd op lo).toNat = f7.toNat <<< 25 ||| rs2.toNat <<< 20 ||| rs1.toNat <<< 15 ||| f3.toNat <<< 12 |||
      rd.toNat <<< 7 ||| op.toNat <<< 2 ||| lo.toNat := by
  show (f7 ++ rs2 ++ rs1 ++ f3 ++ rd ++ op ++ lo : BitVec (7 + 5 + 5 + 3 + 5 + 5 + 2)).toNat = _
  simp only [BitVec.toNat_append]
  simp only [Nat.shiftLeft_or_distrib, ← Nat.shiftLeft_add, Nat.reduceAdd]

section
variable (w : Word)

/-! ### The accessors of a word -/

/-- The opcode field of an exclusive or is the exclusive or of the opcode fields; a mask in bits [1:0] has none (R50). -/
theorem opcode_xor_of_mask {m : Word} (hm : Fields.opcode m = 0) : Fields.opcode (w ^^^ m) = Fields.opcode w := by
  rw [Fields.opcode, BitVec.extractLsb'_xor, show m.extractLsb' 2 5 = 0 from hm]
  exact BitVec.xor_zero

/-- The two low bits as a number (R58 (c)). -/
theorem toNat_low_eq_mask : (Fields.low w).toNat = w.toNat &&& 3 := toNat_extractLsb'_eq_mask w 0 2

theorem toNat_imm110_eq_mask : (Fields.imm110 w).toNat = (w.toNat >>> 20) &&& 0xFFF := toNat_extractLsb'_eq_mask w 20 12

theorem toNat_rs2_eq_mask : (Fields.rs2 w).toNat = (w.toNat >>> 20) &&& 0x1F := toNat_extractLsb'_eq_mask w 20 5

/-- `rs2` is the low five bits of `imm110` (R54, R56). -/
theorem toNat_rs2_eq_imm110_mask : (Fields.rs2 w).toNat = (Fields.imm110 w).toNat &&& 0x1F := by
  rw [toNat_imm110_eq_mask, Nat.and_assoc]
  exact toNat_rs2_eq_mask w

/-- `imm110` is `funct7` above `rs2` (R56). -/
theorem toNat_imm110_eq_or : (Fields.imm110 w).toNat = (Fields.funct7 w).toNat <<< 5 ||| (Fields.rs2 w).toNat := by
  rw [Fields.imm110_eq]
  exact BitVec.toNat_append _ _

/-- `imm3112` is `imm110` above `rs1` above `funct3` (R57). -/
theorem toNat_imm3112_eq_or :
    (Fields.imm3112 w).toNat = (Fields.imm110 w).toNat <<< 8 ||| (Fields.rs1 w).toNat <<< 3 ||| (Fields.funct3 w).toNat := by
  rw [Fields.imm3112_eq, ← Fields.imm110_eq, BitVec.toNat_append, BitVec.toNat_append, Nat.shiftLeft_or_distrib, ← Nat.shiftLeft_add]

/-- The sign bit of the word is the top bit of `imm110` (R56). -/
theorem imm110_ge_of_sign (h : w.getLsbD 31 = true) : 2048 ≤ (Fields.imm110 w).toNat :=
  Nat.ge_two_pow_of_testBit ((getLsbD_patI w (k := 11) (by decide)).trans h)

/-- The word is the OR of its fields at their positions and its two low bits (R58 (c)). -/
theorem toNat_eq_or_fields : w.toNat = (Fields.funct7 w).toNat <<< 25 ||| (Fields.rs2 w).toNat <<< 20 ||| (Fields.rs1 w).toNat <<< 15 |||
    (Fields.funct3 w).toNat <<< 12 ||| (Fields.rd w).toNat <<< 7 ||| (Fields.opcode w).toNat <<< 2 ||| (w.toNat &&& 3) := by
  rw [← toNat_low_eq_mask, ← toNat_join, Fields.join_fields]
end

/-- Settles O20: each accessor is a slice (`toNat_extractLsb'_eq_mask`, without the mask at the top of the word), and the wide ones are
the narrow ones side by side (`Fields.imm110_eq`, `Fields.imm3112_eq`). -/
theorem accessorsAreExactMasks : Obligations.AccessorsAreExactMasks := by
  unfold Obligations.AccessorsAreExactMasks
  refine ⟨fun w => ?masks, fun w => ?relations, by decide⟩
  case masks =>
    exact ⟨toNat_extractLsb'_eq_mask w 2 5, toNat_extractLsb'_eq_mask w 7 5, toNat_extractLsb'_eq_mask w 12 3,
      toNat_extractLsb'_eq_mask w 15 5, toNat_rs2_eq_mask w, toNat_extractLsb'_eq_mask w 25 7, toNat_imm110_eq_mask w,
      toNat_extractLsb'_eq_mask w 12 20⟩
  case relations =>
    exact ⟨opcode_xor_of_mask w (by decide), opcode_xor_of_mask w (by decide), opcode_xor_of_mask w (by decide),
      toNat_rs2_eq_imm110_mask w, toNat_extractLsb'_of_top w rfl, BitVec.getLsbD_extractLsb' .., toNat_imm110_eq_or w,
      imm110_ge_of_sign w, toNat_extractLsb'_of_top w rfl, toNat_imm3112_eq_or w⟩

/-- Settles O21: every accessor is a slice, so a flipped bit shows in the slices that hold it (`extractLsb'_flip`); for the three that reach
bit 31 the upper end of the range is the width of the word. The second part is `toNat_eq_or_fields`. -/
theorem flippingAWordBitFlipsOneFieldBit : Obligations.FlippingAWordBitFlipsOneFieldBit := by
  unfold Obligations.FlippingAWordBitFlipsOneFieldBit
  refine ⟨fun w k hk => ?flip, toNat_eq_or_fields⟩
  case flip =>
    exact ⟨extractLsb'_flip w 2 5 hk (by omega), extractLsb'_flip w 7 5 hk (by omega), extractLsb'_flip w 12 3 hk (by omega),
      extractLsb'_flip w 15 5 hk (by omega), extractLsb'_flip w 20 5 hk (by omega), extractLsb'_flip w 25 7 hk (by omega),
      extractLsb'_flip w 20 12 hk (by omega), extractLsb'_flip w 12 20 hk (by omega)⟩

end Sys2Proof
end

section
/-! The Sign Extender at every width (41_sign_extender.md R60 to R62): its value on any number is the two's-complement value of the low bits. -/

namespace Sys2Proof.Machine

section
variable {n : Nat} (v : Nat) (hn : 1 ≤ n)
include hn

/-- Only the low `n` bits are read (R61). -/
theorem signExtend_mod_two_pow : signExtend (v % 2 ^ n) n = signExtend v n := by
  have hlt : 2 ^ (n - 1) < 2 ^ n := Nat.two_pow_pred_lt_two_pow hn
  have keep {m : Nat} (hm : m < 2 ^ n) : v % 2 ^ n &&& m = v &&& m := by
    rw [← Nat.and_two_pow_sub_one_eq_mod, Nat.and_assoc, Nat.and_comm (2 ^ n - 1), Nat.and_two_pow_sub_one_of_lt_two_pow hm]
  simp only [signExtend, Nat.one_shiftLeft, keep hlt, keep ((Nat.sub_le ..).trans_lt hlt)]

/-- The result is the signed value of the number truncated to the width (R60). -/
theorem signExtend_eq_toInt_ofNat : signExtend v n = (BitVec.ofNat n v).toInt := by
  rw [← signExtend_mod_two_pow v hn, ← BitVec.toNat_ofNat, signExtend_eq_toInt _ hn]

/-- The signed range (R60). -/
theorem signExtend_range : -2 ^ (n - 1) ≤ signExtend v n ∧ signExtend v n ≤ 2 ^ (n - 1) - 1 := by
  rw [signExtend_eq_toInt_ofNat v hn]
  exact ⟨BitVec.le_toInt _, BitVec.toInt_le⟩

/-- The result agrees with the number in the low `n` bits (R62). -/
theorem signExtend_emod_two_pow : signExtend v n % 2 ^ n = (v % 2 ^ n : Nat) := by
  rw [signExtend_eq_toInt_ofNat v hn, BitVec.toInt_ofNat']
  exact_mod_cast Int.bmod_emod

variable {v} in
/-- A pattern without its sign bit is its own value (R60). -/
theorem signExtend_of_lt (h : v < 2 ^ (n - 1)) : signExtend v n = v := by
  have hpow : 2 ^ (n - 1) + 2 ^ (n - 1) = 2 ^ n := Nat.two_pow_pred_add_two_pow_pred hn
  rw [signExtend_eq_toInt_ofNat v hn, BitVec.toInt_eq_toNat_cond, BitVec.toNat_ofNat, Nat.mod_eq_of_lt (by omega), if_pos (by omega)]

variable {v} in
/-- A pattern with its sign bit is `2 ^ n` above its value (R60). -/
theorem signExtend_of_ge (h : 2 ^ (n - 1) ≤ v) (hv : v < 2 ^ n) : signExtend v n = v - 2 ^ n := by
  have hpow : 2 ^ (n - 1) + 2 ^ (n - 1) = 2 ^ n := Nat.two_pow_pred_add_two_pow_pred hn
  rw [signExtend_eq_toInt_ofNat v hn, BitVec.toInt_eq_toNat_cond, BitVec.toNat_ofNat, Nat.mod_eq_of_lt hv, if_neg (by omega), Nat.cast_pow, Nat.cast_ofNat]

/-- R60's equivalent statement, for a number of any size. -/
theorem signExtend_eq_ite :
    signExtend v n = if v % 2 ^ n < 2 ^ (n - 1) then ((v % 2 ^ n : Nat) : Int) else ((v % 2 ^ n : Nat) : Int) - 2 ^ n := by
  rw [← signExtend_mod_two_pow v hn]
  split
  next h => exact signExtend_of_lt hn h
  next h => exact signExtend_of_ge hn (Nat.le_of_not_lt h) (Nat.mod_lt _ (Nat.two_pow_pos n))

/-- The corners of the range: zero, the least and the greatest value, minus one (R60). -/
theorem signExtend_corners :
    signExtend 0 n = 0 ∧ signExtend (2 ^ (n - 1)) n = -2 ^ (n - 1) ∧ signExtend (2 ^ (n - 1) - 1) n = 2 ^ (n - 1) - 1 ∧
    signExtend (2 ^ n - 1) n = -1 := by
  have hpos : 0 < 2 ^ (n - 1) := Nat.two_pow_pos _
  have hpow : 2 ^ (n - 1) + 2 ^ (n - 1) = 2 ^ n := Nat.two_pow_pred_add_two_pow_pred hn
  have hpowInt : (2 : Int) ^ (n - 1) + 2 ^ (n - 1) = 2 ^ n := by exact_mod_cast hpow
  refine ⟨signExtend_of_lt hn hpos, ?least, ?greatest, ?minusOne⟩
  case least =>
    rw [signExtend_of_ge hn le_rfl (by omega), ← hpowInt]
    push_cast
    ring
  case greatest =>
    rw [signExtend_of_lt hn (by omega), Nat.cast_pred hpos, Nat.cast_pow, Nat.cast_ofNat]
  case minusOne =>
    rw [signExtend_of_ge hn (by omega) (by omega), Nat.cast_pred (Nat.two_pow_pos n), Nat.cast_pow, Nat.cast_ofNat]
    ring

/-- Every integer of the signed range is the value of its own low bits (R62). -/
theorem signExtend_toNat_emod {z : Int} (hl : -2 ^ (n - 1) ≤ z) (hu : z ≤ 2 ^ (n - 1) - 1) : signExtend (z % 2 ^ n).toNat n = z := by
  have hpat : (BitVec.ofInt n z).toNat = (z % 2 ^ n).toNat := by
    rw [BitVec.toNat_ofInt, Nat.cast_pow, Nat.cast_ofNat]
  rw [← hpat, signExtend_eq_toInt _ hn, BitVec.toInt_ofInt_eq_self hn hl (by omega)]

/-- On the port every bit from the sign bit of the pattern up is that sign bit (R62). -/
theorem getLsbD_ofInt_signExtend_of_ge {k : Nat} (hk : n - 1 ≤ k) (hk32 : k < 32) :
    (BitVec.ofInt 32 (signExtend v n)).getLsbD k = v.testBit (n - 1) := by
  have hsign : (BitVec.ofNat n v).getLsbD (n - 1) = v.testBit (n - 1) := by
    rw [BitVec.getLsbD_ofNat, decide_eq_true (by omega), Bool.true_and]
  rw [← signExtend_mod_two_pow v hn, ← BitVec.toNat_ofNat, getLsbD_ofInt_signExtend _ hn hk32, ← hsign]
  split
  · rw [show k = n - 1 by omega]
  · rfl
end

end Sys2Proof.Machine

namespace Sys2Proof

open Machine

/-- Settles O22: the value is the signed value of the truncated number, split by the sign bit (`signExtend_of_lt`, `signExtend_of_ge`). -/
theorem signExtendIsTwosComplement : Obligations.SignExtendIsTwosComplement := by
  unfold Obligations.SignExtendIsTwosComplement
  exact ⟨fun v _ hn => ⟨signExtend_eq_ite v hn, signExtend_range v hn⟩, fun _ hn => signExtend_corners hn, by decide⟩

/-- Settles O23: the mask is the remainder by `2 ^ n`, and the extender does not see beyond it (`signExtend_mod_two_pow`). -/
theorem signExtendIgnoresHighBits : Obligations.SignExtendIgnoresHighBits := by
  unfold Obligations.SignExtendIgnoresHighBits
  refine ⟨fun v n hn => ?_, by decide⟩
  rw [Nat.and_two_pow_sub_one_eq_mod, signExtend_mod_two_pow v hn]

/-- Settles O24: the result and the pattern agree modulo `2 ^ n`, the signed range is that of the truncated integers, and the port copies the
sign bit of the pattern. -/
theorem signExtendRoundTrips : Obligations.SignExtendRoundTrips := by
  unfold Obligations.SignExtendRoundTrips
  refine ⟨fun v n hn hv => ?pattern, fun _ _ hn hl hu => signExtend_toNat_emod hn hl hu,
    fun v _ _ hn _ _ hk hk32 => getLsbD_ofInt_signExtend_of_ge v hn hk hk32, by decide, by decide⟩
  case pattern => rw [signExtend_emod_two_pow v hn, Nat.mod_eq_of_lt hv]

end Sys2Proof
end

section
/-! What determines an immediate: the word bits that its format reads, as one mask (42_immediate_assemblers.md R65 to R69, R71 (c)). -/

namespace Sys2Proof

/-! ### Slices of two words that agree, as a mask -/

section
variable {n : Nat} {v w : BitVec n}

/-- Two words agree under a mask when they agree at each of its bits. -/
theorem and_mask_eq_iff {m : BitVec n} : v &&& m = w &&& m ↔ ∀ k < n, m.getLsbD k = true → v.getLsbD k = w.getLsbD k := by
  rw [BitVec.eq_of_getLsbD_eq_iff]
  refine forall₂_congr fun k _ => ?_
  rw [BitVec.getLsbD_and, BitVec.getLsbD_and]
  cases m.getLsbD k <;> simp

/-- Agreeing under two masks is agreeing under their union. -/
theorem and_or_mask_eq_iff {a b : BitVec n} : v &&& (a ||| b) = w &&& (a ||| b) ↔ v &&& a = w &&& a ∧ v &&& b = w &&& b := by
  simp only [and_mask_eq_iff, BitVec.getLsbD_or, Bool.or_eq_true, or_imp, ← forall_and]

/-- Two words have the same slice exactly when they agree under the mask of its range. -/
theorem extractLsb'_eq_iff_and_mask {m : BitVec n} {lo len : Nat} (hm : ∀ k < n, m.getLsbD k = decide (lo ≤ k ∧ k < lo + len))
    (hlen : lo + len ≤ n) : v.extractLsb' lo len = w.extractLsb' lo len ↔ v &&& m = w &&& m := by
  rw [and_mask_eq_iff, BitVec.eq_of_getLsbD_eq_iff]
  constructor
  · intro h k hk hbit
    rw [hm k hk, decide_eq_true_iff] at hbit
    obtain ⟨hlo, hhi⟩ := hbit
    obtain ⟨i, rfl⟩ := Nat.exists_eq_add_of_le hlo
    simpa [show i < len by omega] using h i (by omega)
  · intro h i hi
    rw [BitVec.getLsbD_extractLsb', BitVec.getLsbD_extractLsb',
      h (lo + i) (by omega) (by rw [hm _ (by omega), decide_eq_true_iff]; omega)]
end

end Sys2Proof

namespace Sys2Proof.Machine

section
variable {v w : Word}

/-! ### The fields that an immediate is cut from, as masks of the word -/

theorem imm110_eq_iff : Fields.imm110 v = Fields.imm110 w ↔ v &&& 0xFFF00000 = w &&& 0xFFF00000 :=
  extractLsb'_eq_iff_and_mask (by decide) (by decide)

theorem imm3112_eq_iff : Fields.imm3112 v = Fields.imm3112 w ↔ v &&& 0xFFFFF000 = w &&& 0xFFFFF000 :=
  extractLsb'_eq_iff_and_mask (by decide) (by decide)

theorem funct7_eq_iff : Fields.funct7 v = Fields.funct7 w ↔ v &&& 0xFE000000 = w &&& 0xFE000000 :=
  extractLsb'_eq_iff_and_mask (by decide) (by decide)

theorem rd_eq_iff : Fields.rd v = Fields.rd w ↔ v &&& 0x00000F80 = w &&& 0x00000F80 :=
  extractLsb'_eq_iff_and_mask (by decide) (by decide)

theorem funct7_rd_eq_iff :
    Fields.funct7 v = Fields.funct7 w ∧ Fields.rd v = Fields.rd w ↔ v &&& 0xFE000F80 = w &&& 0xFE000F80 := by
  rw [funct7_eq_iff, rd_eq_iff, ← and_or_mask_eq_iff]
  rfl

/-! ### A pattern determines the fields it is put together from -/

/-- The S layout puts the bits of `funct7` and `rd` back in place (R35, R39). -/
theorem patS_eq_iff : patS v = patS w ↔ Fields.funct7 v = Fields.funct7 w ∧ Fields.rd v = Fields.rd w := by
  constructor
  · intro h
    rw [← encS_fields (w := v) rfl rfl rfl, ← encS_fields (w := w) rfl rfl rfl, h]
    simp only [encS, Fields.funct7_join, Fields.rd_join, and_self]
  · rintro ⟨hf7, hrd⟩
    rw [patS, patS, hf7, hrd]

/-- The B layout puts the bits of `funct7` and `rd` back in place (R36, R39). -/
theorem patB_eq_iff : patB v = patB w ↔ Fields.funct7 v = Fields.funct7 w ∧ Fields.rd v = Fields.rd w := by
  constructor
  · intro h
    rw [← encB_fields (w := v) rfl rfl rfl, ← encB_fields (w := w) rfl rfl rfl, h]
    simp only [encB, Fields.funct7_join, Fields.rd_join, and_self]
  · rintro ⟨hf7, hrd⟩
    rw [patB, patB, hf7, hrd]

/-- The J layout puts the bits of `imm3112` back in place (R38, R39). -/
theorem patJ_eq_iff : patJ v = patJ w ↔ Fields.imm3112 v = Fields.imm3112 w := by
  constructor
  · intro h
    show patU v = patU w
    rw [← encJ_fields (w := v) rfl rfl, ← encJ_fields (w := w) rfl rfl, h]
    simp only [encJ, patU_encU]
  · intro h
    rw [patJ, patJ, h]

/-! ### The word bits that an immediate determines and is determined by -/

/-- Patterns of one width with the same value are the same pattern (R62). -/
theorem signExtend_toNat_inj {n : Nat} (hn : 1 ≤ n) {p q : BitVec n} : signExtend p.toNat n = signExtend q.toNat n ↔ p = q := by
  rw [signExtend_eq_toInt p hn, signExtend_eq_toInt q hn, BitVec.toInt_inj]

theorem immI_eq_iff : immI v = immI w ↔ v &&& 0xFFF00000 = w &&& 0xFFF00000 :=
  (signExtend_toNat_inj (by decide)).trans imm110_eq_iff

theorem immS_eq_iff : immS v = immS w ↔ v &&& 0xFE000F80 = w &&& 0xFE000F80 :=
  (signExtend_toNat_inj (by decide)).trans (patS_eq_iff.trans funct7_rd_eq_iff)

theorem immB_eq_iff : immB v = immB w ↔ v &&& 0xFE000F80 = w &&& 0xFE000F80 :=
  (signExtend_toNat_inj (by decide)).trans (patB_eq_iff.trans funct7_rd_eq_iff)

theorem immU_eq_iff : immU v = immU w ↔ v &&& 0xFFFFF000 = w &&& 0xFFFFF000 :=
  (signExtend_toNat_inj (by decide)).trans imm3112_eq_iff

theorem immJ_eq_iff : immJ v = immJ w ↔ v &&& 0xFFFFF000 = w &&& 0xFFFFF000 :=
  (signExtend_toNat_inj (by decide)).trans (patJ_eq_iff.trans imm3112_eq_iff)

/-- The B-immediate of a word is that of the bits it reads (R67). -/
theorem immB_eq_of_masked {bits : Word} (h : w &&& 0xFE000F80 = bits) : immB w = immB bits := by
  rw [immB_eq_iff, ← h, BitVec.and_assoc, BitVec.and_self]

/-- The J-immediate of a word is that of the bits it reads (R69). -/
theorem immJ_eq_of_masked {bits : Word} (h : w &&& 0xFFFFF000 = bits) : immJ w = immJ bits := by
  rw [immJ_eq_iff, ← h, BitVec.and_assoc, BitVec.and_self]
end

end Sys2Proof.Machine
end

section
/-! The values of an immediate: its sign, its parity, its range with every value reached, and the shift chains of the scattered formats
(42_immediate_assemblers.md R65 to R69, R71 (a)). -/

namespace Sys2Proof.Machine

/-! ### Sign, parity and reachability of a sign-extended pattern -/

section
variable {n : Nat} (hn : 1 ≤ n)
include hn

/-- A pattern is negative when its top bit is 1 (R60). -/
theorem signExtend_toNat_neg_iff (p : BitVec n) : signExtend p.toNat n < 0 ↔ p.getLsbD (n - 1) = true := by
  rw [signExtend_eq_toInt p hn, ← BitVec.msb_eq_getLsbD_last, BitVec.msb_eq_toInt, decide_eq_true_iff]

/-- A pattern and its value have the same parity: they agree modulo `2 ^ n` (R62). -/
theorem evenImm_iff (p : BitVec n) : evenImm p = true ↔ signExtend p.toNat n % 2 = 0 := by
  have hparity : signExtend p.toNat n % 2 = (p.toNat : Int) % 2 := by
    rw [← Int.emod_emod_of_dvd _ (dvd_pow_self 2 (by omega : n ≠ 0)), signExtend_emod_two_pow _ hn, Nat.mod_eq_of_lt p.isLt]
  rw [evenImm, Bool.not_eq_true', ← BitVec.testBit_toNat, Nat.testBit_zero, decide_eq_false_iff_not, hparity]
  omega

/-- Every integer of the signed range is the value of a pattern (R62). -/
theorem signExtend_ofInt {z : Int} (hl : -2 ^ (n - 1) ≤ z) (hu : z < 2 ^ (n - 1)) : signExtend (BitVec.ofInt n z).toNat n = z := by
  rw [signExtend_eq_toInt _ hn, BitVec.toInt_ofInt_eq_self hn hl hu]
end

/-! ### The sign of an immediate -/

section
variable (w : Word)

theorem immI_neg_iff : immI w < 0 ↔ w.getLsbD 31 = true := by
  rw [immI, signExtend_toNat_neg_iff (by decide), getLsbD_patI w (by decide)]

theorem immS_neg_iff : immS w < 0 ↔ w.getLsbD 31 = true := by
  rw [immS, signExtend_toNat_neg_iff (by decide), getLsbD_patS w (by decide), if_neg (by decide)]

theorem immB_neg_iff : immB w < 0 ↔ w.getLsbD 31 = true := by
  rw [immB, signExtend_toNat_neg_iff (by decide), getLsbD_patB w (by decide)]
  rfl

theorem immU_neg_iff : immU w < 0 ↔ w.getLsbD 31 = true := by
  rw [immU, signExtend_toNat_neg_iff (by decide), getLsbD_patU w (by decide)]

theorem immJ_neg_iff : immJ w < 0 ↔ w.getLsbD 31 = true := by
  rw [immJ, signExtend_toNat_neg_iff (by decide), getLsbD_patJ w (by decide)]
  rfl

/-! ### The range of an immediate -/

theorem immI_range : -2048 ≤ immI w ∧ immI w ≤ 2047 := signExtend_range _ (by decide)

theorem immS_range : -2048 ≤ immS w ∧ immS w ≤ 2047 := signExtend_range _ (by decide)

theorem immU_range : -524288 ≤ immU w ∧ immU w ≤ 524287 := signExtend_range _ (by decide)

theorem immB_even : immB w % 2 = 0 := (evenImm_iff (by decide) _).mp (evenImm_patB w)

theorem immJ_even : immJ w % 2 = 0 := (evenImm_iff (by decide) _).mp (evenImm_patJ w)

theorem immB_range : -4096 ≤ immB w ∧ immB w ≤ 4094 := by
  have hrange : -4096 ≤ immB w ∧ immB w ≤ 4095 := signExtend_range _ (by decide)
  have heven := immB_even w
  omega

theorem immJ_range : -1048576 ≤ immJ w ∧ immJ w ≤ 1048574 := by
  have hrange : -1048576 ≤ immJ w ∧ immJ w ≤ 1048575 := signExtend_range _ (by decide)
  have heven := immJ_even w
  omega
end

/-! ### Every value of the range is the immediate of an encoded word -/

section
variable {z : Int}

theorem exists_immI (hl : -2048 ≤ z) (hu : z ≤ 2047) : ∃ w, immI w = z := by
  refine ⟨encI 3 0x04 0 0 0 (BitVec.ofInt 12 z), ?_⟩
  rw [immI, patI_encI, signExtend_ofInt (by decide) hl (by omega)]

theorem exists_immS (hl : -2048 ≤ z) (hu : z ≤ 2047) : ∃ w, immS w = z := by
  refine ⟨encS 3 0x08 0 0 0 (BitVec.ofInt 12 z), ?_⟩
  rw [immS, patS_encS, signExtend_ofInt (by decide) hl (by omega)]

theorem exists_immU (hl : -524288 ≤ z) (hu : z ≤ 524287) : ∃ w, immU w = z := by
  refine ⟨encU 3 0x0D 0 (BitVec.ofInt 20 z), ?_⟩
  rw [immU, patU_encU, signExtend_ofInt (by decide) hl (by omega)]

theorem exists_immB (hl : -4096 ≤ z) (hu : z ≤ 4094) (heven : z % 2 = 0) : ∃ w, immB w = z := by
  have hvalue : signExtend (BitVec.ofInt 13 z).toNat 13 = z := signExtend_ofInt (by decide) hl (by omega)
  have hpat : evenImm (BitVec.ofInt 13 z) = true := (evenImm_iff (by decide) _).mpr (by rw [hvalue, heven])
  refine ⟨encB 3 0x18 0 0 0 (BitVec.ofInt 13 z), ?_⟩
  rw [immB, patB_encB _ _ _ _ _ _ hpat, hvalue]

theorem exists_immJ (hl : -1048576 ≤ z) (hu : z ≤ 1048574) (heven : z % 2 = 0) : ∃ w, immJ w = z := by
  have hvalue : signExtend (BitVec.ofInt 21 z).toNat 21 = z := signExtend_ofInt (by decide) hl (by omega)
  have hpat : evenImm (BitVec.ofInt 21 z) = true := (evenImm_iff (by decide) _).mpr (by rw [hvalue, heven])
  refine ⟨encJ 3 0x1B 0 (BitVec.ofInt 21 z), ?_⟩
  rw [immJ, patJ_encJ _ _ _ _ hpat, hvalue]
end

/-! ### The patterns as numbers: the formulas of R66, R67 and R69 -/

/-- The spec lists the moves of a scattered immediate from the low end, the pattern is put together from the high end (R67, R69). -/
theorem or_four_reverse (a b c d : Nat) : a ||| b ||| c ||| d = d ||| c ||| b ||| a := by
  ac_rfl

section
variable (w : Word)

theorem toNat_patS_eq_or : (patS w).toNat = (Fields.funct7 w).toNat <<< 5 ||| (Fields.rd w).toNat := BitVec.toNat_append _ _

/-- Moving bits [4:1] of a register field down and up again is masking bit 0 off (R67). -/
theorem toNat_high4_shiftLeft : ∀ rd : RegIdx, (rd.extractLsb' 1 4).toNat <<< 1 = rd.toNat &&& 0x1E := by
  decide

theorem toNat_patB_eq_chain : (patB w).toNat =
    ((Fields.rd w).toNat &&& 0x1E) ||| (((Fields.funct7 w).toNat &&& 0x3F) <<< 5) ||| (((Fields.rd w).toNat &&& 0x01) <<< 11) |||
      (((Fields.funct7 w).toNat >>> 6) <<< 12) := by
  rw [patB, BitVec.toNat_append, BitVec.toNat_append, BitVec.toNat_append, BitVec.toNat_append]
  simp only [Nat.shiftLeft_or_distrib, ← Nat.shiftLeft_add, Nat.reduceAdd]
  rw [toNat_high4_shiftLeft, toNat_extractLsb'_of_top _ rfl, toNat_extractLsb'_eq_mask _ 0 1, toNat_extractLsb'_eq_mask _ 0 6,
    Nat.shiftRight_zero, Nat.shiftRight_zero, BitVec.toNat_ofNat, Nat.or_zero]
  exact or_four_reverse ..

theorem toNat_patJ_eq_chain : (patJ w).toNat =
    ((((Fields.imm3112 w).toNat >>> 9) &&& 0x3FF) <<< 1) ||| ((((Fields.imm3112 w).toNat >>> 8) &&& 0x001) <<< 11) |||
      (((Fields.imm3112 w).toNat &&& 0xFF) <<< 12) ||| ((((Fields.imm3112 w).toNat >>> 19) &&& 0x001) <<< 20) := by
  rw [patJ, BitVec.toNat_append, BitVec.toNat_append, BitVec.toNat_append, BitVec.toNat_append]
  simp only [Nat.shiftLeft_or_distrib, ← Nat.shiftLeft_add, Nat.reduceAdd]
  rw [toNat_extractLsb'_eq_mask _ 19 1, toNat_extractLsb'_eq_mask _ 8 1, toNat_extractLsb'_eq_mask _ 0 8, toNat_extractLsb'_eq_mask _ 9 10,
    Nat.shiftRight_zero, BitVec.toNat_ofNat, Nat.or_zero]
  exact or_four_reverse ..
end

/-! ### The U-immediate back in place -/

/-- The U-immediate, moved to the top of the port, is the bits it was read from in their own place (R68). -/
theorem ofInt_immU_shiftLeft (w : Word) : BitVec.ofInt 32 (immU w) <<< 12 = w &&& 0xFFFFF000 := by
  have hmask : ∀ k < 32, (0xFFFFF000 : Word).getLsbD k = decide (12 ≤ k) := by decide
  apply BitVec.eq_of_getLsbD_eq
  intro k hk
  rw [BitVec.getLsbD_shiftLeft, BitVec.getLsbD_and, hmask k hk]
  rcases Nat.lt_or_ge k 12 with hlow | hhigh
  · simp [hlow]
  · rw [getLsbD_immU w (by omega), if_pos (by omega), Nat.sub_add_cancel hhigh]
    simp [hk, hhigh]

/-! ### The corner cases by field -/

section
variable {w : Word}

theorem immI_of_imm110 {imm : BitVec 12} (h : Fields.imm110 w = imm) : immI w = signExtend imm.toNat 12 := by
  rw [immI, patI, h]

theorem immS_of_funct7_rd {f7 : BitVec 7} {rd : RegIdx} (h : Fields.funct7 w = f7 ∧ Fields.rd w = rd) :
    immS w = signExtend (f7 ++ rd).toNat 12 := by
  obtain ⟨hf7, hrd⟩ := h
  rw [immS, patS, hf7, hrd]

theorem immU_of_imm3112 {imm : BitVec 20} (h : Fields.imm3112 w = imm) : immU w = signExtend imm.toNat 20 := by
  rw [immU, patU, h]
end

end Sys2Proof.Machine

namespace Sys2Proof

open Machine

/-- Settles O25: the values at the corners come from the fields that the pattern is cut from, the bits read are the mask of `immI_eq_iff`
and its like, and every value of the range is encoded (`exists_immI`). -/
theorem immediatesISU : Obligations.ImmediatesISU := by
  unfold Obligations.ImmediatesISU
  refine ⟨fun w => ⟨rfl, (immI_range w).1, (immI_range w).2, ?zero, ?max, ?min, ?minusOne⟩, fun v w => immI_eq_iff.mpr,
    fun z => exists_immI, by decide, by decide,
    fun w => ⟨?formulaS, (immS_range w).1, (immS_range w).2, ?minS, ?maxS, ?minusOneS, ?lowS, ?highS⟩, fun v w => immS_eq_iff.mpr,
    fun z => exists_immS, by decide,
    fun w => ⟨rfl, (immU_range w).1, (immU_range w).2, (immU_neg_iff w).mpr, ?minU, ?minusOneU⟩, fun v w => immU_eq_iff.mpr,
    fun z => exists_immU, by decide, by decide⟩
  case formulaS => rw [immS, toNat_patS_eq_or]
  case zero | max | min | minusOne => exact fun h => (immI_of_imm110 h).trans (by decide)
  case minS | maxS | minusOneS | lowS | highS => exact fun h => (immS_of_funct7_rd h).trans (by decide)
  case minU | minusOneU => exact fun h => (immU_of_imm3112 h).trans (by decide)

/-- Settles O26: the pattern is R67's chain as a number, and the corner cases are the immediates of the bits read alone
(`immB_eq_of_masked`), which are fixed words. -/
theorem immediateB : Obligations.ImmediateB := by
  unfold Obligations.ImmediateB
  refine ⟨fun w => ⟨?chain, immB_even w, (immB_range w).1, (immB_range w).2, ?sign, ?bit7, ?bit8, ?bit25, ?zero⟩,
    fun v w => immB_eq_iff.mpr, fun z => exists_immB, by decide, by decide⟩
  case chain => rw [immB, toNat_patB_eq_chain]
  case sign | bit7 | bit8 | bit25 | zero => exact fun h => (immB_eq_of_masked h).trans (by decide)

/-- Settles O27: as for the B format, with R69's chain and the 21-bit pattern. -/
theorem immediateJ : Obligations.ImmediateJ := by
  unfold Obligations.ImmediateJ
  refine ⟨fun w => ⟨?chain, immJ_even w, (immJ_range w).1, (immJ_range w).2, ?sign, ?bit21, ?bit20, ?bit12, ?bit19⟩,
    fun v w => immJ_eq_iff.mpr, fun z => exists_immJ, by decide, by decide⟩
  case chain => rw [immJ, toNat_patJ_eq_chain]
  case sign | bit21 | bit20 | bit12 | bit19 => exact fun h => (immJ_eq_of_masked h).trans (by decide)

/-- Settles O29: the top bit of every pattern is `w[31]`; sign extension loses no bit of a pattern (`signExtend_toNat_inj`), and a pattern
loses no bit of the fields it reads (`patS_eq_iff`, `patB_eq_iff`, `patJ_eq_iff`). -/
theorem immediateSignAndInjectivity : Obligations.ImmediateSignAndInjectivity := by
  unfold Obligations.ImmediateSignAndInjectivity
  exact ⟨fun w => ⟨immI_neg_iff w, immS_neg_iff w, immB_neg_iff w, immU_neg_iff w, immJ_neg_iff w⟩,
    fun v w => ⟨immI_eq_iff.mp, immS_eq_iff.mp, immB_eq_iff.mp, immU_eq_iff.mp, immJ_eq_iff.mp⟩, ofInt_immU_shiftLeft⟩

end Sys2Proof
end

section
/-! Every instruction, well formed or not, settles the block on its own word: nothing faults, stalls or is refused (60_exceptions.md R152, R155). -/

namespace Sys2Proof.Machine

/-- The meaning of every row settles on the row's word. Only the result depends on the row, and in the open classes on the parameter (R88). -/
theorem exec_eq_settle (i : Instr) (s : State) : ∃ r, exec i s = settle (encode i) r s := by
  cases i
  case fence | ecall | ebreak | classMiscMem | classSystem => exact ⟨_, returnIfKey_eq_settle ..⟩
  all_goals exact ⟨_, rfl⟩

end Sys2Proof.Machine

namespace Sys2Proof

open Machine

/-- Settles O16: every meaning is a `settle` (`exec_eq_settle`), which writes the ports and nothing else; a step is such a meaning. -/
theorem everyStepCompletes : Obligations.EveryStepCompletes := by
  unfold Obligations.EveryStepCompletes
  intro i s
  obtain ⟨r, hexec⟩ := exec_eq_settle i s
  exact ⟨⟨_, hexec⟩, ⟨_, step_eq_next s⟩⟩

end Sys2Proof
end

section
/-! The step shows the result of its word, with the taps of the word: `Claims.Shows` from the dispatch table. -/

namespace Sys2Proof

open Machine

/-- The taps are the word's fields, whatever the result (R13, R50 to R57). -/
theorem tapsOf_portsOf (w : Word) (r : Result) : Claims.TapsOf (portsOf w r) w :=
  accessorsAreExactMasks.1 w

/-- Every step shows what the dispatch table gives its word. -/
theorem shows_of_dispatch {s : State} {r : Result} (h : dispatch s.params.dispatchExtra s.instr_i = r) : Claims.Shows s r := by
  subst h
  exact ⟨_, step_eq_next s, rfl, rfl, Ports.result_portsOf_dispatch _ _, tapsOf_portsOf _ _⟩

end Sys2Proof
end

section
/-! The shift-immediate variant (43_format_decoders.md R77): what it returns in each of its two cases, and the word bits it reads in the shift case. -/

namespace Sys2Proof

/-- Two words that agree under a mask have the same slice wherever the mask holds the whole range. -/
theorem extractLsb'_eq_of_and_mask {n : Nat} {v w m : BitVec n} {lo len : Nat} (hm : m.extractLsb' lo len = BitVec.allOnes len)
    (h : v &&& m = w &&& m) : v.extractLsb' lo len = w.extractLsb' lo len := by
  have keep (x : BitVec n) : (x &&& m).extractLsb' lo len = x.extractLsb' lo len := by
    rw [BitVec.extractLsb'_and, hm, BitVec.and_allOnes]
  rw [← keep v, h, keep w]

end Sys2Proof

namespace Sys2Proof.Machine

section
variable {v w : Word}

theorem decodeIShamt_of_shift (h : Fields.funct3 w = 1 ∨ Fields.funct3 w = 5) :
    decodeIShamt w = [.reg (Fields.rd w), .reg (Fields.rs1 w), .shamt (Fields.rs2 w)] :=
  if_pos h

theorem decodeIShamt_of_not_shift (h : ¬ (Fields.funct3 w = 1 ∨ Fields.funct3 w = 5)) : decodeIShamt w = decodeI w :=
  if_neg h

/-- In the shift case of class OP-IMM bits [31:25] are not read (R77). -/
theorem dispatch_shift_congr {extra : DispatchExtra} (hop : Fields.opcode w = 0x04) (h3 : Fields.funct3 w = 1 ∨ Fields.funct3 w = 5)
    (hlow : v &&& 0x01FFFFFF = w &&& 0x01FFFFFF) : dispatch extra v = dispatch extra w := by
  have hop' : Fields.opcode v = Fields.opcode w := extractLsb'_eq_of_and_mask rfl hlow
  have h3' : Fields.funct3 v = Fields.funct3 w := extractLsb'_eq_of_and_mask rfl hlow
  have hrd : Fields.rd v = Fields.rd w := extractLsb'_eq_of_and_mask rfl hlow
  have hrs1 : Fields.rs1 v = Fields.rs1 w := extractLsb'_eq_of_and_mask rfl hlow
  have hrs2 : Fields.rs2 v = Fields.rs2 w := extractLsb'_eq_of_and_mask rfl hlow
  rw [dispatch_opImm hop, dispatch_opImm (hop'.trans hop), decodeIShamt_of_shift h3, decodeIShamt_of_shift (h3' ▸ h3), hrd, hrs1, hrs2]
end

end Sys2Proof.Machine

namespace Sys2Proof

open Machine

/-- A word of class OP-IMM shows its shift-immediate list (R86). -/
theorem shows_opImm (s : State) {w : Word} {args : List Operand} (hop : Fields.opcode w = 0x04) (hargs : decodeIShamt w = args) :
    Claims.Shows (Claims.on s w) (.ok .ISH args) :=
  shows_of_dispatch (hargs ▸ dispatch_opImm hop)

/-- Settles O31: the two branches of `decodeIShamt`, the ISH row of the ports (`resultOnThePorts`), and the bits read in the shift case
(`dispatch_shift_congr`). -/
theorem shiftAmountIsTheRawRs2Field : Obligations.ShiftAmountIsTheRawRs2Field := by
  unfold Obligations.ShiftAmountIsTheRawRs2Field
  refine ⟨fun w => ⟨decodeIShamt_of_shift, fun h1 h5 => decodeIShamt_of_not_shift (not_or.mpr ⟨h1, h5⟩)⟩, ?ports, ?unread, ?examples⟩
  case ports =>
    intro s hop
    obtain ⟨t, hstep, -, -, -, -, hISH, -⟩ := resultOnThePorts s
    obtain ⟨hfmt, hnargs, -, -, -, -, harg2⟩ := hISH hop
    refine ⟨t, hstep, hfmt, hnargs, ?_⟩
    split at harg2
    next hshift =>
      obtain ⟨hkind, hval⟩ := harg2
      refine ⟨iff_of_true hkind hshift, fun _ => ?_, fun hne => absurd hkind hne⟩
      rw [hval, BitVec.toNat_setWidth_of_le (by decide), toNat_rs2_eq_mask]
    next hshift =>
      obtain ⟨hkind, hval⟩ := harg2
      have hne : t.out.arg2_kind_o ≠ 3 := by rw [hkind]; decide
      exact ⟨iff_of_false hne hshift, fun h => absurd h hne, fun _ => ⟨hkind, hval⟩⟩
  case unread =>
    intro s v hop h3 hlow
    refine ⟨_, _, step_eq_next s, step_eq_next (Claims.on s v), ?_⟩
    rw [Ports.result_portsOf_dispatch, Ports.result_portsOf_dispatch]
    exact congrArg some (dispatch_shift_congr hop h3 hlow).symm
  case examples =>
    intro s
    refine ⟨?_, ?_, ?_, ?_, ?_, ?_⟩ <;> exact shows_opImm s (by decide) (by decide)

/-- Settles O30, by evaluating the seven decoders on each of the four words. -/
theorem formatDecodersOnTheFourSpecWords : Obligations.FormatDecodersOnTheFourSpecWords := by
  unfold Obligations.FormatDecodersOnTheFourSpecWords
  exact ⟨by decide, by decide, by decide, by decide⟩

end Sys2Proof
end

section
/-! The opcode dispatch on the machine (44_opcode_dispatch.md R85 to R89): what is masked off, which keys are accepted, and what each key shows. -/

namespace Sys2Proof

open Machine

/-- Settles O8: the row of a word settles on the block function's result of the word (`step_eq_next`), and a word is its own masked value. -/
theorem stepShowsBlockDecode : Obligations.StepShowsBlockDecode := by
  unfold Obligations.StepShowsBlockDecode
  intro s
  rw [decode_toNat, step_eq_next]

/-- A step shows exactly one result: what the dispatch table gives its word. -/
theorem shows_iff_dispatch {s : State} {r : Result} : Claims.Shows s r ↔ dispatch s.params.dispatchExtra s.instr_i = r := by
  refine ⟨?_, shows_of_dispatch⟩
  rintro ⟨t, hstep, -, -, hresult, -⟩
  obtain ⟨-, -, hout⟩ := step_cases hstep
  rw [hout, Ports.result_portsOf_dispatch] at hresult
  exact Option.some.inj hresult

/-- A word put on the input port shows what the dispatch table gives it. -/
theorem shows_on {s : State} {w : Word} {r : Result} (h : dispatch s.params.dispatchExtra w = r) : Claims.Shows (Claims.on s w) r :=
  shows_of_dispatch h

/-- A word is accepted if and only if its key is in the table (R89). -/
theorem dispatch_ok_iff_inK {extra : DispatchExtra} {w : Word} :
    (∃ fmt args, dispatch extra w = .ok fmt args) ↔ Claims.InK extra (Fields.opcode w) := by
  refine ⟨?_, dispatch_of_inK⟩
  rintro ⟨fmt, args, hok⟩
  by_contra hnot
  rw [dispatch_of_not_inK hnot] at hok
  cases hok

/-- Settles O9, key by key, by the key's arm of `dispatch`; the operand lists of the statement are what the decoders return. -/
theorem eachOpcodeValueShowsItsResult : Obligations.EachOpcodeValueShowsItsResult := by
  unfold Obligations.EachOpcodeValueShowsItsResult
  refine ⟨fun s => ⟨?load, ?opImm, ?auipc, ?store, ?op, ?lui, ?branch, ?jalr, ?jal, ?miscMem, ?system, ?unknown⟩, fun s => ?examples⟩
  case load => exact fun h => shows_of_dispatch (dispatch_load h)
  case opImm => exact fun h => shows_of_dispatch (dispatch_opImm h)
  case auipc => exact fun h => shows_of_dispatch (dispatch_auipc h)
  case store => exact fun h => shows_of_dispatch (dispatch_store h)
  case op => exact fun h => shows_of_dispatch (dispatch_op h)
  case lui => exact fun h => shows_of_dispatch (dispatch_lui h)
  case branch => exact fun h => shows_of_dispatch (dispatch_branch h)
  case jalr => exact fun h => shows_of_dispatch (dispatch_jalr h)
  case jal => exact fun h => shows_of_dispatch (dispatch_jal h)
  case miscMem => exact fun h => shows_of_dispatch (dispatch_of_tagI (.inr (.inr (.inl h))))
  case system => exact fun h => shows_of_dispatch (dispatch_of_tagI (.inr (.inr (.inr h))))
  case unknown => exact fun h => shows_of_dispatch (dispatch_of_not_inK h)
  case examples =>
    have hunknown : ¬ Claims.InK s.params.dispatchExtra (Fields.opcode 0xFFFFFFFF) := by
      rw [show Fields.opcode 0xFFFFFFFF = 0x1F by decide]
      simp [Claims.InK]
    exact ⟨shows_opImm s (by decide) (by decide), shows_opImm s (by decide) (by decide),
      shows_on ((dispatch_branch (by decide)).trans (by decide)), shows_on ((dispatch_of_not_inK hunknown).trans (by decide))⟩

/-- Settles O10: the two open arms of `dispatch`; in the examples the parameter decides which branch of the arm is taken. -/
theorem openKeysFollowTheParameter : Obligations.OpenKeysFollowTheParameter := by
  unfold Obligations.OpenKeysFollowTheParameter
  refine ⟨fun s hop => shows_of_dispatch (dispatch_miscMem hop), fun s hop => shows_of_dispatch (dispatch_system hop),
    fun s hkey => ⟨?ecall, ?ebreak⟩, fun s hnone => ?noKey⟩
  case ecall | ebreak =>
    exact shows_on ((dispatch_of_tagI (.inr (.inr (.inr ⟨by decide, hkey⟩)))).trans (by decide))
  case noKey =>
    apply shows_on
    rw [hnone]
    decide

/-- Settles O11: the verdict of the table (`dispatch_ok_iff_inK`, `dispatch_of_not_inK`), which is what the machine shows; K is finite. -/
theorem verdictDependsOnTheKeySet : Obligations.VerdictDependsOnTheKeySet := by
  unfold Obligations.VerdictDependsOnTheKeySet
  refine ⟨fun e x => ⟨dispatch_ok_iff_inK, dispatch_of_not_inK⟩, ?default, fun s => ?machine, by decide⟩
  case default =>
    unfold Claims.InK
    decide
  case machine =>
    simp only [shows_iff_dispatch]
    exact dispatch_ok_iff_inK

/-- Only the low 32 bits of a value reach the word (R85). -/
theorem maskInput_mod_two_pow (x : Nat) : maskInput (x % 2 ^ 32) = maskInput x := by
  apply BitVec.eq_of_toNat_eq
  rw [toNat_maskInput, toNat_maskInput, Nat.mod_mod]

/-- Settles O12: the mask is the remainder modulo 2^32, and `decode` and `present` read their argument through the mask alone. -/
theorem overWideInputIsMasked : Obligations.OverWideInputIsMasked := by
  unfold Obligations.OverWideInputIsMasked
  refine ⟨toNat_maskInput, fun x hx => ?below, fun e x => ?decode, fun s x => ?present, by decide, fun e => ?overWide⟩
  case below => rw [toNat_maskInput, Nat.mod_eq_of_lt hx]
  case decode => rw [decode, decode, maskInput_mod_two_pow]
  case present => rw [State.present, State.present, maskInput_mod_two_pow]
  case overWide => rw [decode, decode, show maskInput 0x100A00093 = maskInput 0x00A00093 by decide]

end Sys2Proof
end

section
/-! What the block does not examine (44_opcode_dispatch.md R90, R91): the two low bits, and the funct fields of a class whose list does not hold them. -/

namespace Sys2Proof.Machine

section
variable {extra : DispatchExtra} {v w : Word}

/-- Words with the same bits above w[1:0] agree under the mask of those bits. -/
theorem and_mask_eq_of_ushiftRight_eq (h : v >>> 2 = w >>> 2) : v &&& 0xFFFFFFFC = w &&& 0xFFFFFFFC := by
  have hslice : v.extractLsb' 2 30 = w.extractLsb' 2 30 := by
    apply BitVec.eq_of_toNat_eq
    rw [BitVec.extractLsb'_toNat, BitVec.extractLsb'_toNat, ← BitVec.toNat_ushiftRight, ← BitVec.toNat_ushiftRight, h]
  exact (extractLsb'_eq_iff_and_mask (by decide) (by decide)).mp hslice

/-- No port reads w[1:0] (R90): neither the result nor a tap does. -/
theorem portsOf_dispatch_congr (h : v &&& 0xFFFFFFFC = w &&& 0xFFFFFFFC) :
    portsOf v (dispatch extra v) = portsOf w (dispatch extra w) := by
  have hop : Fields.opcode v = Fields.opcode w := extractLsb'_eq_of_and_mask rfl h
  have hrd : Fields.rd v = Fields.rd w := extractLsb'_eq_of_and_mask rfl h
  have hf3 : Fields.funct3 v = Fields.funct3 w := extractLsb'_eq_of_and_mask rfl h
  have hrs1 : Fields.rs1 v = Fields.rs1 w := extractLsb'_eq_of_and_mask rfl h
  have hrs2 : Fields.rs2 v = Fields.rs2 w := extractLsb'_eq_of_and_mask rfl h
  have hf7 : Fields.funct7 v = Fields.funct7 w := extractLsb'_eq_of_and_mask rfl h
  have himm110 : Fields.imm110 v = Fields.imm110 w := extractLsb'_eq_of_and_mask rfl h
  have himm3112 : Fields.imm3112 v = Fields.imm3112 w := extractLsb'_eq_of_and_mask rfl h
  have hresult : dispatch extra v = dispatch extra w := by
    simp only [dispatch, decodeR, decodeI, decodeIShamt, decodeS, decodeB, decodeU, decodeJ, immI, immS, immB, immU, immJ,
      patI, patS, patB, patU, patJ, hop, hrd, hf3, hrs1, hrs2, hf7, himm110, himm3112]
  rw [hresult]
  exact portsOf_congr _ hop himm3112 himm110 hrd hf3 hrs1 hrs2 hf7

/-- The list of class OP holds neither funct3 nor funct7 (R91). -/
theorem dispatch_op_congr (hop : Fields.opcode v = 0x0C) (h : v &&& 0x01FF8FFF = w &&& 0x01FF8FFF) :
    dispatch extra v = dispatch extra w := by
  have hop' : Fields.opcode v = Fields.opcode w := extractLsb'_eq_of_and_mask rfl h
  have hrd : Fields.rd v = Fields.rd w := extractLsb'_eq_of_and_mask rfl h
  have hrs1 : Fields.rs1 v = Fields.rs1 w := extractLsb'_eq_of_and_mask rfl h
  have hrs2 : Fields.rs2 v = Fields.rs2 w := extractLsb'_eq_of_and_mask rfl h
  rw [dispatch_op hop, dispatch_op (hop' ▸ hop), decodeR, decodeR, hrd, hrs1, hrs2]

/-- The lists of classes LOAD, STORE, BRANCH and JALR do not hold funct3 (R91). -/
theorem dispatch_congr_of_not_funct3 (hop : Fields.opcode v ∈ [0x00, 0x08, 0x18, 0x19]) (h : v &&& 0xFFFF8FFF = w &&& 0xFFFF8FFF) :
    dispatch extra v = dispatch extra w := by
  have hop' : Fields.opcode v = Fields.opcode w := extractLsb'_eq_of_and_mask rfl h
  have hrd : Fields.rd v = Fields.rd w := extractLsb'_eq_of_and_mask rfl h
  have hrs1 : Fields.rs1 v = Fields.rs1 w := extractLsb'_eq_of_and_mask rfl h
  have hrs2 : Fields.rs2 v = Fields.rs2 w := extractLsb'_eq_of_and_mask rfl h
  have hf7 : Fields.funct7 v = Fields.funct7 w := extractLsb'_eq_of_and_mask rfl h
  have hI : decodeI v = decodeI w := by
    rw [decodeI, decodeI, immI, immI, patI, patI, Fields.imm110_eq, Fields.imm110_eq, hrd, hrs1, hrs2, hf7]
  have hS : decodeS v = decodeS w := by rw [decodeS, decodeS, immS, immS, patS_eq_iff.mpr ⟨hf7, hrd⟩, hrs1, hrs2]
  have hB : decodeB v = decodeB w := by rw [decodeB, decodeB, immB, immB, patB_eq_iff.mpr ⟨hf7, hrd⟩, hrs1, hrs2]
  simp only [List.mem_cons, List.not_mem_nil, or_false] at hop
  obtain hload | hstore | hbranch | hjalr := hop
  · rw [dispatch_load hload, dispatch_load (hop' ▸ hload), hI]
  · rw [dispatch_store hstore, dispatch_store (hop' ▸ hstore), hS]
  · rw [dispatch_branch hbranch, dispatch_branch (hop' ▸ hbranch), hB]
  · rw [dispatch_jalr hjalr, dispatch_jalr (hop' ▸ hjalr), hI]
end

end Sys2Proof.Machine

namespace Sys2Proof

open Machine

/-- Settles O13: no port reads the two low bits (`portsOf_dispatch_congr`). -/
theorem lowBitsAreNotExamined : Obligations.LowBitsAreNotExamined := by
  unfold Obligations.LowBitsAreNotExamined
  refine ⟨fun s v hv => ⟨_, _, step_eq_next s, step_eq_next (Claims.on s v), ?ports⟩, fun s => ?examples⟩
  case ports => exact portsOf_dispatch_congr (and_mask_eq_of_ushiftRight_eq hv).symm
  case examples => refine ⟨?_, ?_, ?_, ?_⟩ <;> exact shows_opImm s (by decide) (by decide)

/-- Settles O14: the set K is a set of opcode values, and each class's list holds only the fields that its mask keeps. -/
theorem functFieldsAreNotValidated : Obligations.FunctFieldsAreNotValidated := by
  unfold Obligations.FunctFieldsAreNotValidated
  refine ⟨fun e v w hop => ?verdict, fun e v w => dispatch_op_congr, fun e v w => dispatch_congr_of_not_funct3, fun s => ?reserved⟩
  case verdict => rw [dispatch_ok_iff_inK, dispatch_ok_iff_inK, hop]
  case reserved => exact shows_on ((dispatch_op (by decide)).trans (by decide))

end Sys2Proof
end

section
/-! All ports of an encoded word, layout by layout (10_state.md R13, R14, R17; 30_encoding.md R32 to R38): the terms in which the whole next state of a
row is stated. -/

namespace Sys2Proof.Machine

/-! ### The taps of a joined word, with each kind of result -/

section
variable (f7 : BitVec 7) (rs2 rs1 : RegIdx) (f3 : BitVec 3) (rd : RegIdx) (op : BitVec 5) (lo : BitVec 2)

theorem portsOf_join_unknownOpcode (op' : BitVec 5) :
    portsOf (Fields.join f7 rs2 rs1 f3 rd op lo) (.unknownOpcode op') = Claims.rejected op rd f3 rs1 rs2 f7 := by
  simp only [portsOf, Fields.opcode_join, Fields.rd_join, Fields.funct3_join, Fields.rs1_join, Fields.rs2_join, Fields.funct7_join,
    Fields.imm110_join, Fields.imm3112_join]
  rfl

theorem portsOf_join_two (fmt : Fmt) (a b : Operand) :
    portsOf (Fields.join f7 rs2 rs1 f3 rd op lo) (.ok fmt [a, b]) =
      Claims.two (Claims.rejected op rd f3 rs1 rs2 f7) fmt.code (kindCode a) (valCode a) (kindCode b) (valCode b) := by
  rw [← portsOf_join_unknownOpcode f7 rs2 rs1 f3 rd op lo 0]
  rfl

theorem portsOf_join_three (fmt : Fmt) (a b c : Operand) :
    portsOf (Fields.join f7 rs2 rs1 f3 rd op lo) (.ok fmt [a, b, c]) =
      Claims.three (Claims.rejected op rd f3 rs1 rs2 f7) fmt.code (kindCode a) (valCode a) (kindCode b) (valCode b)
        (kindCode c) (valCode c) := by
  rw [← portsOf_join_unknownOpcode f7 rs2 rs1 f3 rd op lo 0]
  rfl
end

/-! ### The ports of each layout -/

/-- An immediate operand on its port (R14, R62). -/
theorem valCode_imm_signExtend {n : Nat} (v : BitVec n) (hn : 1 ≤ n) :
    valCode (some (.imm (signExtend v.toNat n))) = v.signExtend 32 :=
  ofInt_signExtend v hn

section
variable (low : BitVec 2) (op : BitVec 5) (f7 : BitVec 7) (f3 : BitVec 3) (rd rs1 rs2 : RegIdx)

theorem portsOf_encR : portsOf (encR low 0x0C f7 f3 rd rs1 rs2) (.ok .R (argsR rd rs1 rs2)) = Claims.portsR f7 f3 rd rs1 rs2 :=
  portsOf_join_three ..

theorem portsOf_encR_shamt : portsOf (encR low 0x04 f7 f3 rd rs1 rs2) (.ok .ISH (argsShamt rd rs1 rs2)) = Claims.portsShift f7 f3 rd rs1 rs2 :=
  portsOf_join_three ..

theorem portsOf_encI (fmt : Fmt) (imm : BitVec 12) :
    portsOf (encI low op f3 rd rs1 imm) (.ok fmt (argsI rd rs1 imm)) = Claims.portsI fmt.code op f3 rd rs1 imm := by
  rw [encI, argsI, portsOf_join_three, valCode_imm_signExtend imm (by decide)]
  rfl

/-- Both cases of R77: the I layout is the R layout whose rs2 and funct7 hold the immediate. -/
theorem portsOf_encI_ISH (imm : BitVec 12) :
    portsOf (encI low 0x04 f3 rd rs1 imm) (.ok .ISH (argsISH f3 rd rs1 imm)) = Claims.portsISH f3 rd rs1 imm := by
  have hshift : isShiftFunct3 f3 = true ↔ f3 = 1 ∨ f3 = 5 := by simp [isShiftFunct3]
  simp only [argsISH, Claims.portsISH, hshift]
  split
  · exact portsOf_encR_shamt ..
  · exact portsOf_encI ..

theorem portsOf_encS (imm : BitVec 12) :
    portsOf (encS low 0x08 f3 rs1 rs2 imm) (.ok .S (argsS rs1 rs2 imm)) = Claims.portsS f3 rs1 rs2 imm := by
  rw [encS, argsS, portsOf_join_three, valCode_imm_signExtend imm (by decide)]
  rfl

theorem portsOf_encB (imm : BitVec 13) :
    portsOf (encB low 0x18 f3 rs1 rs2 imm) (.ok .B (argsB rs1 rs2 imm)) = Claims.portsB f3 rs1 rs2 imm := by
  rw [encB, argsB, portsOf_join_three, valCode_imm_signExtend imm (by decide)]
  rfl

theorem portsOf_encU (imm : BitVec 20) :
    portsOf (encU low op rd imm) (.ok .U (argsU rd imm)) = Claims.portsU op rd imm := by
  rw [encU, argsU, portsOf_join_two, valCode_imm_signExtend imm (by decide)]
  rfl

/-- The J layout, field by field: word bits [31:12] are imm[20], imm[10:1], imm[11], imm[19:12] (R38). -/
theorem encJ_eq_join (imm : BitVec 21) : encJ low op rd imm =
    Fields.join (imm.extractLsb' 20 1 ++ imm.extractLsb' 5 6) (imm.extractLsb' 1 4 ++ imm.extractLsb' 11 1) (imm.extractLsb' 15 5)
      (imm.extractLsb' 12 3) rd op low := by
  rw [encJ, encU]
  congr 1
  all_goals
    apply BitVec.eq_of_getLsbD_eq
    intro i hi
    simp only [BitVec.getLsbD_append, BitVec.getLsbD_extractLsb']
    interval_cases i <;> rfl

theorem portsOf_encJ (imm : BitVec 21) :
    portsOf (encJ low 0x1B rd imm) (.ok .J (argsJ rd imm)) = Claims.portsJ rd imm := by
  rw [encJ_eq_join, argsJ, portsOf_join_two, valCode_imm_signExtend imm (by decide)]
  rfl

/-- A word of an unknown class, field by field (R31). -/
theorem encRest_eq_join (rest : BitVec 25) : encRest low op rest =
    Fields.join (rest.extractLsb' 18 7) (rest.extractLsb' 13 5) (rest.extractLsb' 8 5) (rest.extractLsb' 5 3) (rest.extractLsb' 0 5) op low := by
  apply BitVec.eq_of_getLsbD_eq
  intro i hi
  rw [getLsbD_encRest, Fields.getLsbD_join]
  simp only [BitVec.getLsbD_extractLsb']
  split_ifs
  · rfl
  · rfl
  all_goals
    rw [decide_eq_true (by omega), Bool.true_and]
    congr 1
    omega

theorem portsOf_encRest (op' : BitVec 5) (rest : BitVec 25) :
    portsOf (encRest low op rest) (.unknownOpcode op') = Claims.portsUnknown op rest := by
  rw [encRest_eq_join, portsOf_join_unknownOpcode]
  rfl
end

end Sys2Proof.Machine

namespace Sys2Proof

open Machine

/-- The next state of a settled block, from what its ports are. -/
theorem settle_eq_of_ports {w : Word} {r : Result} {p : Ports} (s : State) (h : portsOf w r = p) : settle w r s = .next { s with out := p } := by
  rw [settle_eq_next, h]

/-- Settles O55: each class row returns the list of its format under its layout's word, and the ports of that word are those of the layout. -/
theorem baseClassesComplete : Obligations.BaseClassesComplete := by
  unfold Obligations.BaseClassesComplete
  intro s low f7 f3 rd rs1 rs2 imm12 imm13 imm20 imm21
  exact ⟨settle_eq_of_ports s (portsOf_encI ..), settle_eq_of_ports s (portsOf_encI_ISH ..), settle_eq_of_ports s (portsOf_encU ..),
    settle_eq_of_ports s (portsOf_encS ..), settle_eq_of_ports s (portsOf_encR ..), settle_eq_of_ports s (portsOf_encU ..),
    settle_eq_of_ports s (portsOf_encB ..), settle_eq_of_ports s (portsOf_encI ..), settle_eq_of_ports s (portsOf_encJ ..)⟩

/-- Settles O56: each class row raises the error under its own word (`portsOf_encRest`). -/
theorem unknownClassesComplete : Obligations.UnknownClassesComplete := by
  unfold Obligations.UnknownClassesComplete
  intro s low rest
  have hports (op : BitVec 5) : settle (encRest low op rest) (.unknownOpcode op) s = .next { s with out := Claims.portsUnknown op rest } :=
    settle_eq_of_ports s (portsOf_encRest ..)
  exact ⟨hports _, hports _, hports _, hports _, hports _, hports _, hports _, hports _, hports _, hports _, hports _, hports _, hports _,
    hports _, hports _, hports _, hports _, hports _, hports _, hports _, hports _⟩

end Sys2Proof
end

section
/-! The named rows as masks and matches (45_rv32i_instruction_map.md R100 to R139): a word meets the mask and match of a row exactly when it is the encoding
of an instruction of the row, and the decoder, being the inverse of the encoder, answers that instruction. -/

namespace Sys2Proof

open Machine

/-- The decoder answers an instruction exactly for the word of that instruction, if it is well formed. -/
theorem decodeWord_eq_iff {w : Word} {i : Instr} : decodeWord w = i ↔ i.wf = true ∧ encode i = w := by
  constructor
  · rintro rfl
    exact ⟨wf_decodeWord w, encode_decodeWord w⟩
  · rintro ⟨hwf, rfl⟩
    exact decodeOfEncodeIsTheInstruction i hwf

/-! ### The three masks of the map, as the fields they hold -/

section
variable {v w : Word}

theorem low_opcode_eq_iff : Fields.low v = Fields.low w ∧ Fields.opcode v = Fields.opcode w ↔ v &&& 0x7F = w &&& 0x7F := by
  have hlow : Fields.low v = Fields.low w ↔ v &&& 0x3 = w &&& 0x3 := extractLsb'_eq_iff_and_mask (by decide) (by decide)
  have hop : Fields.opcode v = Fields.opcode w ↔ v &&& 0x7C = w &&& 0x7C := extractLsb'_eq_iff_and_mask (by decide) (by decide)
  rw [hlow, hop, ← and_or_mask_eq_iff]
  rfl

theorem low_opcode_funct3_eq_iff :
    (Fields.low v = Fields.low w ∧ Fields.opcode v = Fields.opcode w) ∧ Fields.funct3 v = Fields.funct3 w ↔ v &&& 0x707F = w &&& 0x707F := by
  have h3 : Fields.funct3 v = Fields.funct3 w ↔ v &&& 0x7000 = w &&& 0x7000 := extractLsb'_eq_iff_and_mask (by decide) (by decide)
  rw [low_opcode_eq_iff, h3, ← and_or_mask_eq_iff]
  rfl

theorem low_opcode_funct3_funct7_eq_iff :
    ((Fields.low v = Fields.low w ∧ Fields.opcode v = Fields.opcode w) ∧ Fields.funct3 v = Fields.funct3 w) ∧ Fields.funct7 v = Fields.funct7 w ↔
      v &&& 0xFE00707F = w &&& 0xFE00707F := by
  rw [low_opcode_funct3_eq_iff, funct7_eq_iff, ← and_or_mask_eq_iff]
  rfl
end

/-! ### A row of each layout: its match is the word with the row's fixed fields, and zero elsewhere -/

section
variable {w bits : Word}

theorem match_iff_rowU {row : RegIdx → BitVec 20 → Instr} (hbits : bits &&& 0x7F = bits) (hwf : ∀ a b, (row a b).wf = true)
    (henc : ∀ a b, encode (row a b) = encU (Fields.low bits) (Fields.opcode bits) a b) :
    w &&& 0x7F = bits ↔ ∃ a b, decodeWord w = row a b := by
  rw [← hbits, ← low_opcode_eq_iff]
  constructor
  · rintro ⟨hlow, hop⟩
    exact ⟨_, _, decodeWord_eq_iff.mpr ⟨hwf .., (henc ..).trans (encU_fields hlow hop)⟩⟩
  · rintro ⟨a, b, hrow⟩
    obtain ⟨-, rfl⟩ := decodeWord_eq_iff.mp hrow
    rw [henc]
    exact ⟨low_encU .., opcode_encU ..⟩

theorem match_iff_rowJ {row : RegIdx → BitVec 21 → Instr} (hbits : bits &&& 0x7F = bits) (hwf : ∀ a b, (row a b).wf = evenImm b)
    (henc : ∀ a b, encode (row a b) = encJ (Fields.low bits) (Fields.opcode bits) a b) :
    w &&& 0x7F = bits ↔ ∃ a b, decodeWord w = row a b := by
  rw [← hbits, ← low_opcode_eq_iff]
  constructor
  · rintro ⟨hlow, hop⟩
    exact ⟨_, _, decodeWord_eq_iff.mpr ⟨(hwf ..).trans (evenImm_patJ w), (henc ..).trans (encJ_fields hlow hop)⟩⟩
  · rintro ⟨a, b, hrow⟩
    obtain ⟨-, rfl⟩ := decodeWord_eq_iff.mp hrow
    rw [henc]
    exact ⟨low_encJ .., opcode_encJ ..⟩

theorem match_iff_rowI {row : RegIdx → RegIdx → BitVec 12 → Instr} (hbits : bits &&& 0x707F = bits) (hwf : ∀ a b c, (row a b c).wf = true)
    (henc : ∀ a b c, encode (row a b c) = encI (Fields.low bits) (Fields.opcode bits) (Fields.funct3 bits) a b c) :
    w &&& 0x707F = bits ↔ ∃ a b c, decodeWord w = row a b c := by
  rw [← hbits, ← low_opcode_funct3_eq_iff]
  constructor
  · rintro ⟨⟨hlow, hop⟩, h3⟩
    exact ⟨_, _, _, decodeWord_eq_iff.mpr ⟨hwf .., (henc ..).trans (encI_fields hlow hop h3)⟩⟩
  · rintro ⟨a, b, c, hrow⟩
    obtain ⟨-, rfl⟩ := decodeWord_eq_iff.mp hrow
    rw [henc]
    exact ⟨⟨low_encI .., opcode_encI ..⟩, funct3_encI ..⟩

theorem match_iff_rowS {row : RegIdx → RegIdx → BitVec 12 → Instr} (hbits : bits &&& 0x707F = bits) (hwf : ∀ a b c, (row a b c).wf = true)
    (henc : ∀ a b c, encode (row a b c) = encS (Fields.low bits) (Fields.opcode bits) (Fields.funct3 bits) a b c) :
    w &&& 0x707F = bits ↔ ∃ a b c, decodeWord w = row a b c := by
  rw [← hbits, ← low_opcode_funct3_eq_iff]
  constructor
  · rintro ⟨⟨hlow, hop⟩, h3⟩
    exact ⟨_, _, _, decodeWord_eq_iff.mpr ⟨hwf .., (henc ..).trans (encS_fields hlow hop h3)⟩⟩
  · rintro ⟨a, b, c, hrow⟩
    obtain ⟨-, rfl⟩ := decodeWord_eq_iff.mp hrow
    rw [henc]
    exact ⟨⟨low_encS .., opcode_encS ..⟩, funct3_encS ..⟩

theorem match_iff_rowB {row : RegIdx → RegIdx → BitVec 13 → Instr} (hbits : bits &&& 0x707F = bits) (hwf : ∀ a b c, (row a b c).wf = evenImm c)
    (henc : ∀ a b c, encode (row a b c) = encB (Fields.low bits) (Fields.opcode bits) (Fields.funct3 bits) a b c) :
    w &&& 0x707F = bits ↔ ∃ a b c, decodeWord w = row a b c := by
  rw [← hbits, ← low_opcode_funct3_eq_iff]
  constructor
  · rintro ⟨⟨hlow, hop⟩, h3⟩
    exact ⟨_, _, _, decodeWord_eq_iff.mpr ⟨(hwf ..).trans (evenImm_patB w), (henc ..).trans (encB_fields hlow hop h3)⟩⟩
  · rintro ⟨a, b, c, hrow⟩
    obtain ⟨-, rfl⟩ := decodeWord_eq_iff.mp hrow
    rw [henc]
    exact ⟨⟨low_encB .., opcode_encB ..⟩, funct3_encB ..⟩

theorem match_iff_rowR {row : RegIdx → RegIdx → RegIdx → Instr} (hbits : bits &&& 0xFE00707F = bits) (hwf : ∀ a b c, (row a b c).wf = true)
    (henc : ∀ a b c, encode (row a b c) = encR (Fields.low bits) (Fields.opcode bits) (Fields.funct7 bits) (Fields.funct3 bits) a b c) :
    w &&& 0xFE00707F = bits ↔ ∃ a b c, decodeWord w = row a b c := by
  rw [← hbits, ← low_opcode_funct3_funct7_eq_iff]
  constructor
  · rintro ⟨⟨⟨hlow, hop⟩, h3⟩, h7⟩
    exact ⟨_, _, _, decodeWord_eq_iff.mpr ⟨hwf .., (henc ..).trans (encR_fields hlow hop h7 h3)⟩⟩
  · rintro ⟨a, b, c, hrow⟩
    obtain ⟨-, rfl⟩ := decodeWord_eq_iff.mp hrow
    rw [henc]
    exact ⟨⟨⟨low_encR .., opcode_encR ..⟩, funct3_encR ..⟩, funct7_encR ..⟩

/-- A row without operands is one word. -/
theorem word_iff_row {row : Instr} (hwf : row.wf = true) (henc : encode row = bits) : w = bits ↔ decodeWord w = row := by
  rw [decodeWord_eq_iff, henc, eq_comm]
  exact (and_iff_right hwf).symm
end

/-- Settles O6, row by row, by the lemma of the row's layout. -/
theorem maskAndMatchPickTheRow : Obligations.MaskAndMatchPickTheRow := by
  unfold Obligations.MaskAndMatchPickTheRow
  intro w
  refine ⟨?lui, ?auipc, ?jal, ?jalr, ?slli, ?srli, ?srai, ?fence, ?ecall, ?ebreak⟩
  case lui | auipc => exact match_iff_rowU (by decide) (fun _ _ => rfl) (fun _ _ => rfl)
  case jal => exact match_iff_rowJ (by decide) (fun _ _ => rfl) (fun _ _ => rfl)
  case jalr | fence => exact match_iff_rowI (by decide) (fun _ _ _ => rfl) (fun _ _ _ => rfl)
  case slli | srli | srai => exact match_iff_rowR (by decide) (fun _ _ _ => rfl) (fun _ _ _ => rfl)
  case ecall | ebreak => exact word_iff_row rfl rfl

/-- Settles O7, row by row, by the lemma of the row's layout. -/
theorem functFieldsPickTheRow : Obligations.FunctFieldsPickTheRow := by
  unfold Obligations.FunctFieldsPickTheRow
  intro w
  refine ⟨?beq, ?bne, ?blt, ?bge, ?bltu, ?bgeu, ?lb, ?lh, ?lw, ?lbu, ?lhu, ?sb, ?sh, ?sw, ?addi, ?slti, ?sltiu, ?xori, ?ori, ?andi,
    ?add, ?sub, ?sll, ?slt, ?sltu, ?xor, ?srl, ?sra, ?or, ?and⟩
  case beq | bne | blt | bge | bltu | bgeu => exact match_iff_rowB (by decide) (fun _ _ _ => rfl) (fun _ _ _ => rfl)
  case lb | lh | lw | lbu | lhu | addi | slti | sltiu | xori | ori | andi =>
    exact match_iff_rowI (by decide) (fun _ _ _ => rfl) (fun _ _ _ => rfl)
  case sb | sh | sw => exact match_iff_rowS (by decide) (fun _ _ _ => rfl) (fun _ _ _ => rfl)
  case add | sub | sll | slt | sltu | xor | srl | sra | or | and =>
    exact match_iff_rowR (by decide) (fun _ _ _ => rfl) (fun _ _ _ => rfl)

end Sys2Proof
end

section
/-! What the words of each class and of each named row show (45_rv32i_instruction_map.md R100 to R139): a row's mask holds the opcode field, and the key in it
decides the list. -/

namespace Sys2Proof

open Machine

section
variable {w m bits : Word}

/-- A mask that holds a range of the word fixes the slice of that range. -/
theorem extractLsb'_of_and_eq {lo len : Nat} (hm : m.extractLsb' lo len = BitVec.allOnes len) (h : w &&& m = bits) :
    w.extractLsb' lo len = bits.extractLsb' lo len :=
  extractLsb'_eq_of_and_mask hm (by rw [← h, BitVec.and_assoc, BitVec.and_self])

/-- A word has the key of the match that it meets. -/
theorem opcode_of_match {op : BitVec 5} (hm : Fields.opcode m = 0x1F) (hbits : Fields.opcode bits = op) (h : w &&& m = bits) :
    Fields.opcode w = op :=
  (extractLsb'_of_and_eq hm h).trans hbits

/-- A word has the funct3 of the match that it meets, if the mask holds that field. -/
theorem funct3_of_match (hm : Fields.funct3 m = 0x7) (h : w &&& m = bits) : Fields.funct3 w = Fields.funct3 bits :=
  extractLsb'_of_and_eq hm h
end

/-- From 0x80000 on the U pattern is negative (R100). -/
theorem immU_neg_of_le {w : Word} (h : 0x80000 ≤ w.toNat >>> 12) : immU w < 0 := by
  rw [immU_neg_iff, ← BitVec.msb_eq_getLsbD_last (x := w), BitVec.msb_eq_decide, decide_eq_true_iff]
  omega

/-- Settles O38: the mask of each row holds the opcode field, and the key's arm of `dispatch` gives the list. -/
theorem upperAndJumpWords : Obligations.UpperAndJumpWords := by
  unfold Obligations.UpperAndJumpWords
  refine ⟨fun s h => ?lui, fun s h => ?auipc, fun s h => ?jal, fun s h => ?jalr, fun s h => ?jalrClass,
    fun w => ⟨(immU_range w).1, (immU_range w).2, immU_neg_of_le⟩, fun w => ⟨immJ_even w, immJ_range w⟩, fun s => ?examples⟩
  case lui => exact shows_of_dispatch (dispatch_lui (opcode_of_match (by decide) (by decide) h))
  case auipc => exact shows_of_dispatch (dispatch_auipc (opcode_of_match (by decide) (by decide) h))
  case jal => exact shows_of_dispatch (dispatch_jal (opcode_of_match (by decide) (by decide) h))
  case jalr | jalrClass => exact shows_of_dispatch (dispatch_jalr (opcode_of_match (by decide) (by decide) h))
  case examples =>
    exact ⟨shows_on ((dispatch_lui (by decide)).trans (by decide)), shows_on ((dispatch_auipc (by decide)).trans (by decide)),
      shows_on ((dispatch_jal (by decide)).trans (by decide)), shows_on ((dispatch_jalr (by decide)).trans (by decide))⟩

/-- Settles O40: all six matches and the class's own have the key of BRANCH, whose list does not hold funct3. -/
theorem branchWords : Obligations.BranchWords := by
  unfold Obligations.BranchWords
  have hkey : ∀ m ∈ ([0x0063, 0x1063, 0x4063, 0x5063, 0x6063, 0x7063] : List Word), Fields.opcode m = 0x18 := by simp [Fields.opcode]
  refine ⟨fun s m hm h => ?row, fun s h => ?anyFunct3,
    fun w => ⟨immB_even w, (immB_range w).1, (immB_range w).2, fun h => (immB_eq_of_masked h).trans (by decide)⟩, fun s => ?examples⟩
  case row => exact shows_of_dispatch (dispatch_branch (opcode_of_match (by decide) (hkey m hm) h))
  case anyFunct3 => exact shows_of_dispatch (dispatch_branch (opcode_of_match (by decide) (by decide) h))
  case examples => refine ⟨?_, ?_, ?_, ?_, ?_, ?_⟩ <;> exact shows_on ((dispatch_branch (by decide)).trans (by decide))

/-- Settles O41: all five matches and the class's own have the key of LOAD, whose list does not hold funct3. -/
theorem loadWords : Obligations.LoadWords := by
  unfold Obligations.LoadWords
  have hkey : ∀ m ∈ ([0x0003, 0x1003, 0x2003, 0x4003, 0x5003] : List Word), Fields.opcode m = 0x00 := by simp [Fields.opcode]
  refine ⟨fun s m hm h => ?row, fun s h => ?anyFunct3, fun s => ?examples⟩
  case row => exact shows_of_dispatch (dispatch_load (opcode_of_match (by decide) (hkey m hm) h))
  case anyFunct3 => exact shows_of_dispatch (dispatch_load (opcode_of_match (by decide) (by decide) h))
  case examples => refine ⟨?_, ?_, ?_, ?_, ?_⟩ <;> exact shows_on ((dispatch_load (by decide)).trans (by decide))

/-- Settles O42: all three matches and the class's own have the key of STORE; the rd position is the low part of the S pattern. -/
theorem storeWords : Obligations.StoreWords := by
  unfold Obligations.StoreWords
  have hkey : ∀ m ∈ ([0x0023, 0x1023, 0x2023] : List Word), Fields.opcode m = 0x08 := by simp [Fields.opcode]
  refine ⟨fun s m hm h => ?row, fun s h => ?anyFunct3, fun w => BitVec.extractLsb'_append_eq_right, fun s => ?examples⟩
  case row => exact shows_of_dispatch (dispatch_store (opcode_of_match (by decide) (hkey m hm) h))
  case anyFunct3 => exact shows_of_dispatch (dispatch_store (opcode_of_match (by decide) (by decide) h))
  case examples => refine ⟨?_, ?_, ?_⟩ <;> exact shows_on ((dispatch_store (by decide)).trans (by decide))

/-- Settles O43: none of the six matches has a funct3 of the shift case, so `decode_i_shamt` falls back to `decode_i` (R77). -/
theorem opImmWords : Obligations.OpImmWords := by
  unfold Obligations.OpImmWords
  have hkey : ∀ m ∈ ([0x0013, 0x2013, 0x3013, 0x4013, 0x6013, 0x7013] : List Word),
      Fields.opcode m = 0x04 ∧ ¬ (Fields.funct3 m = 1 ∨ Fields.funct3 m = 5) := by simp [Fields.opcode, Fields.funct3]
  refine ⟨fun s m hm h => ?row, fun s => ?examples⟩
  case row =>
    obtain ⟨hop, h3⟩ := hkey m hm
    rw [← funct3_of_match (by decide) h] at h3
    have hlist : decodeIShamt s.instr_i = decodeI s.instr_i := decodeIShamt_of_not_shift h3
    refine ⟨shows_of_dispatch ?_, hlist⟩
    rw [dispatch_opImm (opcode_of_match (by decide) hop h), hlist]
    rfl
  case examples => refine ⟨?_, ?_, ?_, ?_, ?_, ?_, ?_⟩ <;> exact shows_opImm s (by decide) (by decide)

/-- A word of class OP-IMM in the shift case shows the raw rs2 field (R77). -/
theorem shows_of_shift {s : State} {m bits : Word} (hop : Fields.opcode m = 0x1F) (hf3 : Fields.funct3 m = 0x7) (h : s.instr_i &&& m = bits)
    (hbits : Fields.opcode bits = 0x04 ∧ (Fields.funct3 bits = 1 ∨ Fields.funct3 bits = 5)) :
    Claims.Shows s (.ok .ISH [.reg (Fields.rd s.instr_i), .reg (Fields.rs1 s.instr_i), .shamt (Fields.rs2 s.instr_i)]) := by
  obtain ⟨hkey, h3⟩ := hbits
  rw [← funct3_of_match hf3 h] at h3
  apply shows_of_dispatch
  rw [dispatch_opImm (opcode_of_match hop hkey h), decodeIShamt_of_shift h3]

/-- Settles O44: every match, with or without bits [31:25] in the mask, has a funct3 of the shift case (`shows_of_shift`). -/
theorem shiftImmWords : Obligations.ShiftImmWords := by
  unfold Obligations.ShiftImmWords
  have hkey : ∀ m ∈ ([0x00001013, 0x00005013, 0x40005013] : List Word),
      Fields.opcode m = 0x04 ∧ (Fields.funct3 m = 1 ∨ Fields.funct3 m = 5) := by simp [Fields.opcode, Fields.funct3]
  refine ⟨fun s m hm h => ?row, fun s h => ?anyFunct7, fun s => ?examples⟩
  case row => exact shows_of_shift (by decide) (by decide) h (hkey m hm)
  case anyFunct7 =>
    obtain h1 | h5 := h
    · exact shows_of_shift (by decide) (by decide) h1 (by decide)
    · exact shows_of_shift (by decide) (by decide) h5 (by decide)
  case examples => refine ⟨?_, ?_, ?_⟩ <;> exact shows_opImm s (by decide) (by decide)

/-- Settles O45: all ten matches and the class's own have the key of OP, whose list holds neither funct field. -/
theorem opRegWords : Obligations.OpRegWords := by
  unfold Obligations.OpRegWords
  have hkey : ∀ m ∈ ([0x00000033, 0x40000033, 0x00001033, 0x00002033, 0x00003033, 0x00004033, 0x00005033, 0x40005033, 0x00006033,
      0x00007033] : List Word), Fields.opcode m = 0x0C := by simp [Fields.opcode]
  have hexample : ∀ w ∈ ([0x002081B3, 0x402081B3, 0x002091B3, 0x0020A1B3, 0x0020B1B3, 0x0020C1B3, 0x0020D1B3, 0x4020D1B3, 0x0020E1B3,
      0x0020F1B3] : List Word), Fields.opcode w = 0x0C ∧ decodeR w = [.reg 3, .reg 1, .reg 2] := by
    simp [decodeR, Fields.opcode, Fields.rd, Fields.rs1, Fields.rs2]
  refine ⟨fun s m hm h => ?row, fun s h => ?anyFunct3, fun s w hw => ?examples⟩
  case row => exact shows_of_dispatch (dispatch_op (opcode_of_match (by decide) (hkey m hm) h))
  case anyFunct3 => exact shows_of_dispatch (dispatch_op (opcode_of_match (by decide) (by decide) h))
  case examples =>
    obtain ⟨hop, hlist⟩ := hexample w hw
    exact shows_on (hlist ▸ dispatch_op hop)

/-! ### The open classes: the parameter decides -/

section
variable {extra : DispatchExtra} {w : Word}

theorem dispatch_miscMem_of_not_key (h : Fields.opcode w = 0x03) (hkey : extra.miscMem = false) : dispatch extra w = .unknownOpcode 0x03 := by
  rw [dispatch_miscMem h, hkey]
  rfl

theorem dispatch_system_of_not_key (h : Fields.opcode w = 0x1C) (hkey : extra.system = false) : dispatch extra w = .unknownOpcode 0x1C := by
  rw [dispatch_system h, hkey]
  rfl
end

/-- Settles O46: the arms of the two open keys; in the examples the parameter decides which branch is taken. -/
theorem fenceAndSystemWords : Obligations.FenceAndSystemWords := by
  unfold Obligations.FenceAndSystemWords
  refine ⟨fun s h => ?miscMem, fun s h => ?system, fun s hkey => ⟨?fenceOff, ?fenceIOff⟩, fun s hkey => ⟨?fence, ?fenceI⟩,
    fun s hkey => ⟨?ecallOff, ?ebreakOff⟩, fun s hkey => ⟨?ecall, ?ebreak⟩⟩
  case miscMem => exact shows_of_dispatch (dispatch_miscMem (opcode_of_match (by decide) (by decide) h))
  case system => exact shows_of_dispatch (dispatch_system (opcode_of_match (by decide) (by decide) h))
  case fenceOff | fenceIOff => exact shows_on (dispatch_miscMem_of_not_key (by decide) hkey)
  case fence | fenceI => exact shows_on ((dispatch_of_tagI (.inr (.inr (.inl ⟨by decide, hkey⟩)))).trans (by decide))
  case ecallOff | ebreakOff => exact shows_on (dispatch_system_of_not_key (by decide) hkey)
  case ecall | ebreak => exact shows_on ((dispatch_of_tagI (.inr (.inr (.inr ⟨by decide, hkey⟩)))).trans (by decide))

end Sys2Proof
end

section
/-! The whole next state of each named row, from its operands alone (45_rv32i_instruction_map.md R100 to R139): every meaning settles on the word of its
layout, whose ports are known layout by layout. -/

namespace Sys2Proof

open Machine

/-- Settles O47: each row returns the list of its layout under its own word. -/
theorem upperAndJumpComplete : Obligations.UpperAndJumpComplete := by
  unfold Obligations.UpperAndJumpComplete
  intro s rd rs1 imm12 imm20 imm21
  exact ⟨settle_eq_of_ports s (portsOf_encU ..), settle_eq_of_ports s (portsOf_encU ..), settle_eq_of_ports s (portsOf_encJ ..),
    settle_eq_of_ports s (portsOf_encI ..)⟩

/-- Settles O48: the six rows are the B layout with the row's funct3. -/
theorem branchesComplete : Obligations.BranchesComplete := by
  unfold Obligations.BranchesComplete
  intro s rs1 rs2 imm
  refine ⟨?_, ?_, ?_, ?_, ?_, ?_⟩ <;> exact settle_eq_of_ports s (portsOf_encB ..)

/-- Settles O49: the five rows are the I layout with the row's funct3. -/
theorem loadsComplete : Obligations.LoadsComplete := by
  unfold Obligations.LoadsComplete
  intro s rd rs1 imm
  refine ⟨?_, ?_, ?_, ?_, ?_⟩ <;> exact settle_eq_of_ports s (portsOf_encI ..)

/-- Settles O50: the three rows are the S layout with the row's funct3. -/
theorem storesComplete : Obligations.StoresComplete := by
  unfold Obligations.StoresComplete
  intro s rs1 rs2 imm
  refine ⟨?_, ?_, ?_⟩ <;> exact settle_eq_of_ports s (portsOf_encS ..)

/-- Settles O51: the six rows are the I layout with the row's funct3, under the tag ISH. -/
theorem opImmComplete : Obligations.OpImmComplete := by
  unfold Obligations.OpImmComplete
  intro s rd rs1 imm
  refine ⟨?_, ?_, ?_, ?_, ?_, ?_⟩ <;> exact settle_eq_of_ports s (portsOf_encI ..)

/-- Settles O52: the three rows are the R layout of class OP-IMM with the shift amount in the rs2 position. -/
theorem shiftImmComplete : Obligations.ShiftImmComplete := by
  unfold Obligations.ShiftImmComplete
  intro s rd rs1 shamt
  refine ⟨?_, ?_, ?_⟩ <;> exact settle_eq_of_ports s (portsOf_encR_shamt ..)

/-- Settles O53: the ten rows are the R layout with the row's funct3 and funct7. -/
theorem opRegComplete : Obligations.OpRegComplete := by
  unfold Obligations.OpRegComplete
  intro s rd rs1 rs2
  refine ⟨?_, ?_, ?_, ?_, ?_, ?_, ?_, ?_, ?_, ?_⟩ <;> exact settle_eq_of_ports s (portsOf_encR ..)

/-- A word of an open class in the I layout (R88): the list where the key is present, the error under the same taps where it is not. -/
theorem returnIfKey_encI {w : Word} (present : Bool) (low : BitVec 2) (op : BitVec 5) (f3 : BitVec 3) (rd rs1 : RegIdx) (imm : BitVec 12)
    (s : State) (hw : w = encI low op f3 rd rs1 imm) :
    returnIfKey present w op (argsI rd rs1 imm) s = .next { s with out := Claims.portsOpen present op f3 rd rs1 imm } := by
  subst hw
  cases present
  case true => exact settle_eq_of_ports s (portsOf_encI ..)
  case false => exact settle_eq_of_ports s (portsOf_join_unknownOpcode ..)

/-- Settles O54: the five rows are the I layout; ECALL and EBREAK are its words with zero fields and the immediates 0 and 1. -/
theorem fenceAndSystemComplete : Obligations.FenceAndSystemComplete := by
  unfold Obligations.FenceAndSystemComplete
  intro s low f3 rd rs1 imm
  have hecall : encode .ecall = encI 3 0x1C 0 0 0 0x000 := by decide
  have hebreak : encode .ebreak = encI 3 0x1C 0 0 0 0x001 := by decide
  exact ⟨returnIfKey_encI (hw := rfl) .., returnIfKey_encI (hw := hecall) .., returnIfKey_encI (hw := hebreak) ..,
    returnIfKey_encI (hw := rfl) .., returnIfKey_encI (hw := rfl) ..⟩

end Sys2Proof
end

section
/-! The one error (60_exceptions.md R150 to R156): when it is raised, what the ports then show, and that nothing of it is left behind. -/

namespace Sys2Proof

open Machine

/-- A step raises the error exactly where the key is outside the dispatch table (R89, R150). -/
theorem err_o_eq_one_iff_of_step {s t : State} (hstep : step s = .next t) :
    t.out.err_o = 1 ↔ ¬ Claims.InK s.params.dispatchExtra (Fields.opcode s.instr_i) := by
  obtain ⟨t', hstep', haccepted, hrejected, -⟩ := resultOnThePorts s
  obtain rfl : t = t' := Host.Outcome.next.inj (hstep.symm.trans hstep')
  refine ⟨fun herr hK => ?_, fun hK => (hrejected hK).1⟩
  rw [haccepted hK] at herr
  exact absurd herr (by decide)

/-- Settles O34: err_o is 1 exactly outside K (`err_o_eq_one_iff_of_step`), where the result is the error, with no operands; the taps do not depend
on the result. The two words are examples of O9 and O10. -/
theorem unknownOpcodeOnThePorts : Obligations.UnknownOpcodeOnThePorts := by
  unfold Obligations.UnknownOpcodeOnThePorts
  obtain ⟨-, hexamples⟩ := eachOpcodeValueShowsItsResult
  obtain ⟨-, -, -, hecall⟩ := openKeysFollowTheParameter
  refine ⟨fun s => ?ports, fun s => ?allOnes, hecall⟩
  case ports =>
    have herr := err_o_eq_one_iff_of_step (step_eq_next s)
    refine ⟨_, step_eq_next s, herr, fun hrejected => ?_, tapsOf_portsOf _ _⟩
    rw [dispatch_of_not_inK (herr.mp hrejected)]
    exact ⟨rfl, rfl, rfl, rfl, rfl, rfl, rfl, rfl, rfl, rfl⟩
  case allOnes =>
    obtain ⟨-, -, -, hones⟩ := hexamples s
    exact hones

/-- A step reads the input and the parameters and overwrites every port: two states that agree on the first two step to the same state (R10). -/
theorem step_congr {s s' : State} (hin : s.instr_i = s'.instr_i) (hparams : s.params = s'.params) : step s = step s' := by
  rw [step_eq_next, step_eq_next, hin, hparams]

/-- Settles O35: a step changes the ports alone (`step_cases`) and settles them (`settled_of_step`), and the next step does not read them (`step_congr`).
It holds of every step; that the word was rejected is not used. -/
theorem rejectedWordLeavesNoTrace : Obligations.RejectedWordLeavesNoTrace := by
  unfold Obligations.RejectedWordLeavesNoTrace
  intro s t hstep _
  obtain ⟨hin, hparams, -⟩ := step_cases hstep
  refine ⟨hin, hparams, step_of_settled (settled_of_step hstep), fun x => ?next⟩
  have hsame : step (s.present x) = step (t.present x) := step_congr rfl hparams.symm
  exact ⟨_, step_eq_next _, hsame.trans (step_eq_next _)⟩

end Sys2Proof
end

section
/-! The state at power-up (10_state.md section 3, R20), and the U-immediate on its port for a consumer to shift (70_reset_and_hazards.md R167). -/

namespace Sys2Proof

open Machine

/-- The ports of the state after reset are those of its word, which is class LOAD (log 2). -/
theorem settled_reset : State.reset.Settled := by
  rw [State.Settled, dispatch_load (by decide)]
  decide

/-- Settles O18: a settled state is what a step leaves (`step_of_settled`), so its ports are legal (`stepLeavesSettledLegalPorts`) and read as the
result of its word (`portsReadBackAsTheResult`), which is the I list of zeros. -/
theorem resetIsSettledAndLegal : Obligations.ResetIsSettledAndLegal := by
  unfold Obligations.ResetIsSettledAndLegal
  have hstep : step State.reset = .next State.reset := step_of_settled settled_reset
  obtain ⟨-, hlegal, -⟩ := stepLeavesSettledLegalPorts _ _ hstep
  have hresult := portsReadBackAsTheResult _ _ hstep
  rw [decode_toNat, dispatch_load (by decide)] at hresult
  exact ⟨settled_reset, hlegal, rfl, hresult.trans (by decide), rfl⟩

/-- Settles O39: LUI and AUIPC return the U list (`dispatch_of_tagU`), whose immediate stands on the port sign-extended (`ofInt_signExtend`), so that
the shift moves its bits back to their place in the word (`ofInt_immU_shiftLeft`). -/
theorem upperImmediateIsNotShifted : Obligations.UpperImmediateIsNotShifted := by
  unfold Obligations.UpperImmediateIsNotShifted
  refine ⟨fun s hop => ?port, fun s => shows_on ((dispatch_lui (by decide)).trans (by decide)), by decide⟩
  case port =>
    obtain ⟨-, -, -, hkind, -, -, hval, -⟩ := portsOf_two (congrArg (portsOf s.instr_i) (dispatch_of_tagU hop.symm))
    refine ⟨_, step_eq_next s, hkind, ?signExtended, ?shifted⟩
    case signExtended => exact hval.trans (ofInt_signExtend (patU s.instr_i) (by decide))
    case shifted =>
      rw [hval]
      exact ofInt_immU_shiftLeft s.instr_i

end Sys2Proof
end
